-- ==== Sys2Proof/Word.lean ====
section
/-! DEFINITION. The widths of the block: the byte (DATA_BITS = 8), the word and address (ADDR_BITS = 16), and texts
(00_scope.md R7, R8, R10). -/

namespace Sys2Proof

/-- DATA_BITS = 8: a byte, bits 7 down to 0 (00_scope.md R7, R8). -/
abbrev Byte := BitVec 8

/-- ADDR_BITS = 16: an address or a word; its arithmetic is modulo 2^16 (00_scope.md R7, R8; 20_memory.md R57). -/
abbrev Word := BitVec 16

/-- A text: a finite sequence of 7-bit ASCII characters (00_scope.md R10). -/
abbrev Text := List Char

end Sys2Proof
end

