-- ==== Sys2Proof/Config.lean ====
section
/-! DEFINITION. What the spec leaves OPEN (00_scope.md R7), and the free values the model draws where the spec lets any
value stand (93_implementation_defined.md U1, U8). Every constant here is opaque: nothing can be proved of its value. -/

namespace Sys2Proof

/-- The state of a line the controller asserts or releases (10_state.md R22, R23). -/
inductive Line where
  | asserted
  | released
deriving DecidableEq, Repr, Inhabited

/-- The Z80's interrupt mode (47_decode_ed.md R276; `resetCpu` leaves mode 0, 70_reset_and_hazards.md R392). -/
inductive InterruptMode where
  | mode0
  | mode1
  | mode2
deriving DecidableEq, Repr, Inhabited

namespace Config

/-- `RESET_LINE_AT_POWER_ON`: the reset line at controller power-on, OPEN (00_scope.md R7, decision D30). -/
opaque resetLineAtPowerOn : Line

/-- `PIN_CLK`, OPEN; no rule reads it (00_scope.md R7, decision D32). -/
opaque pinClk : Nat

/-- `PIN_RESET`, OPEN; no rule reads it (00_scope.md R7, decision D32). -/
opaque pinReset : Nat

/-- `PIN_RAM_OVR`, OPEN; no rule reads it (00_scope.md R7, decision D32). -/
opaque pinRamOvr : Nat

/-- `PORT_DATA[7:0]`, OPEN; no rule reads it (00_scope.md R7, decision D32). -/
opaque portData : Fin 8 → Nat

/-- `PULSE_WIDTH`, OPEN; the block models no time (00_scope.md R7, decision D34). -/
opaque pulseWidth : Nat

/-- `PULSE_PERIOD`, OPEN; the block models no time (00_scope.md R7, decision D34). -/
opaque pulsePeriod : Nat

/-- FREE VALUE. The byte the data bus carries at a sample when the spec lets it be any value (U1). -/
opaque freeByte : Nat → Byte

/-- FREE VALUE. `z80.A` where the spec lets it be any value (U1, U8). -/
opaque freeA : Nat → Byte

/-- FREE VALUE. `z80.HL` where the spec lets it be any value (U1, U8). -/
opaque freeHL : Nat → Word

/-- FREE VALUE. `z80.PC` where the spec lets it be any value (U1). -/
opaque freePC : Nat → Word

/-- FREE VALUE. `z80.F` where the spec gives it no value (41_channel_ops.md R120; logs 7 and 8). -/
opaque freeF : Nat → Byte

/-- FREE VALUE. `z80.R` where the spec gives it no value (41_channel_ops.md R120; logs 7 and 8). -/
opaque freeR : Nat → Byte

/-- FREE VALUE. Whether a desynced Z80 has its maskable interrupts enabled (41_channel_ops.md R120). -/
opaque freeIntEnable : Nat → Bool

/-- FREE VALUE. The interrupt mode of a desynced Z80 (41_channel_ops.md R120). -/
opaque freeIntMode : Nat → InterruptMode

/-- FREE VALUE. The changes a desynced instruction makes to target memory: any bytes at any addresses (U1). -/
opaque scramble : Nat → List Host.Cell

end Config

end Sys2Proof
end

