-- ==== Sys2Proof/Syntax.lean ====
section
/-! DEFINITION. The instructions the decoder recognises: one constructor per mnemonic of spec/opcode_table.json, each with
the fields and operands of its encoding (30_encoding.md R75 to R77, R97). -/

namespace Sys2Proof

/-- The bitfield tuple of one opcode byte. `P` and `Q` are redundant views of `Y` and have no place of their own
(10_state.md R32; 42_tables_and_bitfields.md R130, R131). -/
structure Fields where
  x : Fin 4
  y : Fin 8
  z : Fin 8
deriving DecidableEq, Repr

/-- The index register a `DD` or `FD` prefix chooses (42_tables_and_bitfields.md R143; `ixname` of 10_state.md R33). -/
inductive IndexReg where
  | ix
  | iy
deriving DecidableEq, Repr

/-- The prefix class of a decode; the index register exists only in class DD-or-FD (10_state.md R33; 30_encoding.md R78). -/
inductive PrefixClass where
  | unprefixed
  | cb
  | ed
  | ddfd (ixname : IndexReg)
deriving DecidableEq, Repr

/-- The decoded instruction forms. `y`, `z`, `p` are fields of the opcode byte, `n` an 8-bit immediate or port number,
`d` a displacement, `nn` a 16-bit immediate, `ir` the index register of the prefix, `jr` that of a second prefix that is
looked at and not consumed. Bits the form ignores are fields too, so that no bit of an encoding is dropped (log 10). -/
inductive Instr where
  -- Unprefixed forms (43, 44, 45: R150 to R240)
  | nop
  | exAfAf
  | djnz (d : Byte)
  | jr (d : Byte)
  | jrCc (y : Fin 8) (d : Byte)
  | ldRpNn (p : Fin 4) (nn : Word)
  | addHlRp (p : Fin 4)
  | ldBcA
  | ldDeA
  | ldNnHl (nn : Word)
  | ldNnA (nn : Word)
  | ldABc
  | ldADe
  | ldHlNni (nn : Word)
  | ldANni (nn : Word)
  | incRp (p : Fin 4)
  | decRp (p : Fin 4)
  | incR (y : Fin 8)
  | incM
  | decR (y : Fin 8)
  | decM
  | ldRN (y : Fin 8) (n : Byte)
  | ldMN (n : Byte)
  | rlca
  | rrca
  | rla
  | rra
  | daa
  | cpl
  | scf
  | ccf
  | ldRR (y : Fin 8) (z : Fin 8)
  | ldRM (y : Fin 8)
  | ldMR (z : Fin 8)
  | halt
  | addR (z : Fin 8)
  | addM
  | adcR (z : Fin 8)
  | adcM
  | subR (z : Fin 8)
  | subM
  | sbcR (z : Fin 8)
  | sbcM
  | andR (z : Fin 8)
  | andM
  | xorR (z : Fin 8)
  | xorM
  | orR (z : Fin 8)
  | orM
  | cpR (z : Fin 8)
  | cpM
  | retCc (y : Fin 8)
  | popRp2 (p : Fin 4)
  | ret
  | exx
  | jpHl
  | ldSpHl
  | jpCcNn (y : Fin 8) (nn : Word)
  | jpNn (nn : Word)
  | outNA (n : Byte)
  | inAN (n : Byte)
  | exSpHl
  | exDeHl
  | di
  | ei
  | callCcNn (y : Fin 8) (nn : Word)
  | pushRp2 (p : Fin 4)
  | callNn (nn : Word)
  | addN (n : Byte)
  | adcN (n : Byte)
  | subN (n : Byte)
  | sbcN (n : Byte)
  | andN (n : Byte)
  | xorN (n : Byte)
  | orN (n : Byte)
  | cpN (n : Byte)
  | rst (y : Fin 8)
  -- CB forms (46: R250 to R260)
  | cbRlc (z : Fin 8)
  | cbRrc (z : Fin 8)
  | cbRl (z : Fin 8)
  | cbRr (z : Fin 8)
  | cbSla (z : Fin 8)
  | cbSra (z : Fin 8)
  | cbSll (z : Fin 8)
  | cbSrl (z : Fin 8)
  | cbBit (y : Fin 8) (z : Fin 8)
  | cbRes (y : Fin 8) (z : Fin 8)
  | cbSet (y : Fin 8) (z : Fin 8)
  -- ED forms (47: R265 to R302)
  | inRC (y : Fin 8)
  | inC
  | outCR (y : Fin 8)
  | outC0
  | sbcHlRp (p : Fin 4)
  | adcHlRp (p : Fin 4)
  | ldNnRp (p : Fin 4) (nn : Word)
  | ldRpNni (p : Fin 4) (nn : Word)
  | neg (y : Fin 8)
  | retn (y : Fin 8)
  | reti
  | im (y : Fin 8)
  | ldIA
  | ldRA
  | ldAI
  | ldAR
  | rrd
  | rld
  | edNopX1 (y : Fin 8)
  | ldi
  | cpi
  | ini
  | outi
  | ldd
  | cpd
  | ind
  | outd
  | ldir
  | cpir
  | inir
  | otir
  | lddr
  | cpdr
  | indr
  | otdr
  | edNopX2 (y : Fin 8) (z : Fin 8)
  | edNopX0 (y : Fin 8) (z : Fin 8)
  | edNopX3 (y : Fin 8) (z : Fin 8)
  -- DD and FD forms that involve HL or (HL), and the lone prefix (48: R310 to R334)
  | loneDdFd (ir : IndexReg) (jr : IndexReg)
  | loneEd (ir : IndexReg)
  | addIRp (ir : IndexReg) (p : Fin 4)
  | ldINn (ir : IndexReg) (nn : Word)
  | ldNnI (ir : IndexReg) (nn : Word)
  | incI (ir : IndexReg)
  | ldINni (ir : IndexReg) (nn : Word)
  | decI (ir : IndexReg)
  | incID (ir : IndexReg) (d : Byte)
  | decID (ir : IndexReg) (d : Byte)
  | ldIDN (ir : IndexReg) (d : Byte) (n : Byte)
  | ldRID (ir : IndexReg) (y : Fin 8) (d : Byte)
  | ldIDR (ir : IndexReg) (d : Byte) (z : Fin 8)
  | addID (ir : IndexReg) (d : Byte)
  | adcID (ir : IndexReg) (d : Byte)
  | subID (ir : IndexReg) (d : Byte)
  | sbcID (ir : IndexReg) (d : Byte)
  | andID (ir : IndexReg) (d : Byte)
  | xorID (ir : IndexReg) (d : Byte)
  | orID (ir : IndexReg) (d : Byte)
  | cpID (ir : IndexReg) (d : Byte)
  | popI (ir : IndexReg)
  | exSpI (ir : IndexReg)
  | pushI (ir : IndexReg)
  | jpI (ir : IndexReg)
  | ldSpI (ir : IndexReg)
  -- DD and FD before a byte that involves neither: pass-through (48: R335)
  | passNop (ir : IndexReg)
  | passExAfAf (ir : IndexReg)
  | passDjnz (ir : IndexReg) (d : Byte)
  | passJr (ir : IndexReg) (d : Byte)
  | passJrCc (ir : IndexReg) (y : Fin 8) (d : Byte)
  | passLdRpNn (ir : IndexReg) (p : Fin 4) (nn : Word)
  | passLdBcA (ir : IndexReg)
  | passLdDeA (ir : IndexReg)
  | passLdNnA (ir : IndexReg) (nn : Word)
  | passLdABc (ir : IndexReg)
  | passLdADe (ir : IndexReg)
  | passLdANni (ir : IndexReg) (nn : Word)
  | passIncRp (ir : IndexReg) (p : Fin 4)
  | passDecRp (ir : IndexReg) (p : Fin 4)
  | passIncR (ir : IndexReg) (y : Fin 8)
  | passDecR (ir : IndexReg) (y : Fin 8)
  | passLdRN (ir : IndexReg) (y : Fin 8) (n : Byte)
  | passRlca (ir : IndexReg)
  | passRrca (ir : IndexReg)
  | passRla (ir : IndexReg)
  | passRra (ir : IndexReg)
  | passDaa (ir : IndexReg)
  | passCpl (ir : IndexReg)
  | passScf (ir : IndexReg)
  | passCcf (ir : IndexReg)
  | passLdRR (ir : IndexReg) (y : Fin 8) (z : Fin 8)
  | passHalt (ir : IndexReg)
  | passAddR (ir : IndexReg) (z : Fin 8)
  | passAdcR (ir : IndexReg) (z : Fin 8)
  | passSubR (ir : IndexReg) (z : Fin 8)
  | passSbcR (ir : IndexReg) (z : Fin 8)
  | passAndR (ir : IndexReg) (z : Fin 8)
  | passXorR (ir : IndexReg) (z : Fin 8)
  | passOrR (ir : IndexReg) (z : Fin 8)
  | passCpR (ir : IndexReg) (z : Fin 8)
  | passRetCc (ir : IndexReg) (y : Fin 8)
  | passPopRp2 (ir : IndexReg) (p : Fin 4)
  | passRet (ir : IndexReg)
  | passExx (ir : IndexReg)
  | passJpCcNn (ir : IndexReg) (y : Fin 8) (nn : Word)
  | passJpNn (ir : IndexReg) (nn : Word)
  | passOutNA (ir : IndexReg) (n : Byte)
  | passInAN (ir : IndexReg) (n : Byte)
  | passExDeHl (ir : IndexReg)
  | passDi (ir : IndexReg)
  | passEi (ir : IndexReg)
  | passCallCcNn (ir : IndexReg) (y : Fin 8) (nn : Word)
  | passPushRp2 (ir : IndexReg) (p : Fin 4)
  | passCallNn (ir : IndexReg) (nn : Word)
  | passAddN (ir : IndexReg) (n : Byte)
  | passAdcN (ir : IndexReg) (n : Byte)
  | passSubN (ir : IndexReg) (n : Byte)
  | passSbcN (ir : IndexReg) (n : Byte)
  | passAndN (ir : IndexReg) (n : Byte)
  | passXorN (ir : IndexReg) (n : Byte)
  | passOrN (ir : IndexReg) (n : Byte)
  | passCpN (ir : IndexReg) (n : Byte)
  | passRst (ir : IndexReg) (y : Fin 8)
  -- DD CB and FD CB forms (48: R336 to R346)
  | xcbRlc (ir : IndexReg) (d : Byte) (z : Fin 8)
  | xcbRrc (ir : IndexReg) (d : Byte) (z : Fin 8)
  | xcbRl (ir : IndexReg) (d : Byte) (z : Fin 8)
  | xcbRr (ir : IndexReg) (d : Byte) (z : Fin 8)
  | xcbSla (ir : IndexReg) (d : Byte) (z : Fin 8)
  | xcbSra (ir : IndexReg) (d : Byte) (z : Fin 8)
  | xcbSll (ir : IndexReg) (d : Byte) (z : Fin 8)
  | xcbSrl (ir : IndexReg) (d : Byte) (z : Fin 8)
  | xcbBit (ir : IndexReg) (d : Byte) (y : Fin 8) (z : Fin 8)
  | xcbRes (ir : IndexReg) (d : Byte) (y : Fin 8) (z : Fin 8)
  | xcbSet (ir : IndexReg) (d : Byte) (y : Fin 8) (z : Fin 8)
deriving DecidableEq, Repr

end Sys2Proof
end

