-- ==== Sys2Proof/WellFormed.lean ====
section
/-! DEFINITION. The guards of the forms: which field values an instruction of each form may hold
(the "Selected when" line of each rule of files 43 to 48). -/

namespace Sys2Proof

/-- A register operand: index 6 of `register8` is the memory operand, which has forms of its own
(42_tables_and_bitfields.md R132). -/
def isRegister (y : Fin 8) : Bool := y != 6

/-- `JR cc,d` has `Y` in 4..7 (43_decode_unprefixed_x0.md R154). -/
def isJrCondition (y : Fin 8) : Bool := 4 <= y

/-- `RETN` has every `Y` but 1, which is `RETI` (47_decode_ed.md R274, R275). -/
def isRetn (y : Fin 8) : Bool := y != 1

/-- The `NOP` fallback of the column `Z = 7` has `Y` in 6..7 (47_decode_ed.md R283). -/
def isTopPair (y : Fin 8) : Bool := 6 <= y

/-- The cells of `X = 2` outside the sixteen block cells: `Y < 4` or `Z >= 4` (47_decode_ed.md R300). -/
def isOutsideBlock (y z : Fin 8) : Bool := y < 4 || 4 <= z

/-- A pass-through form with a pair operand has every `P` but 2: with `P = 2` the byte is in `PAIRSET`
(48_decode_ddfd.md R306, R335). -/
def isPassPair (p : Fin 4) : Bool := p != 2

/-- An instruction holds only the field values its form's guard admits. -/
def wellFormed : Instr → Bool
  | .nop => true
  | .exAfAf => true
  | .djnz _ => true
  | .jr _ => true
  | .jrCc y _ => isJrCondition y
  | .ldRpNn _ _ => true
  | .addHlRp _ => true
  | .ldBcA => true
  | .ldDeA => true
  | .ldNnHl _ => true
  | .ldNnA _ => true
  | .ldABc => true
  | .ldADe => true
  | .ldHlNni _ => true
  | .ldANni _ => true
  | .incRp _ => true
  | .decRp _ => true
  | .incR y => isRegister y
  | .incM => true
  | .decR y => isRegister y
  | .decM => true
  | .ldRN y _ => isRegister y
  | .ldMN _ => true
  | .rlca => true
  | .rrca => true
  | .rla => true
  | .rra => true
  | .daa => true
  | .cpl => true
  | .scf => true
  | .ccf => true
  | .ldRR y z => isRegister y && isRegister z
  | .ldRM y => isRegister y
  | .ldMR z => isRegister z
  | .halt => true
  | .addR z => isRegister z
  | .addM => true
  | .adcR z => isRegister z
  | .adcM => true
  | .subR z => isRegister z
  | .subM => true
  | .sbcR z => isRegister z
  | .sbcM => true
  | .andR z => isRegister z
  | .andM => true
  | .xorR z => isRegister z
  | .xorM => true
  | .orR z => isRegister z
  | .orM => true
  | .cpR z => isRegister z
  | .cpM => true
  | .retCc _ => true
  | .popRp2 _ => true
  | .ret => true
  | .exx => true
  | .jpHl => true
  | .ldSpHl => true
  | .jpCcNn _ _ => true
  | .jpNn _ => true
  | .outNA _ => true
  | .inAN _ => true
  | .exSpHl => true
  | .exDeHl => true
  | .di => true
  | .ei => true
  | .callCcNn _ _ => true
  | .pushRp2 _ => true
  | .callNn _ => true
  | .addN _ => true
  | .adcN _ => true
  | .subN _ => true
  | .sbcN _ => true
  | .andN _ => true
  | .xorN _ => true
  | .orN _ => true
  | .cpN _ => true
  | .rst _ => true
  | .cbRlc _ => true
  | .cbRrc _ => true
  | .cbRl _ => true
  | .cbRr _ => true
  | .cbSla _ => true
  | .cbSra _ => true
  | .cbSll _ => true
  | .cbSrl _ => true
  | .cbBit _ _ => true
  | .cbRes _ _ => true
  | .cbSet _ _ => true
  | .inRC y => isRegister y
  | .inC => true
  | .outCR y => isRegister y
  | .outC0 => true
  | .sbcHlRp _ => true
  | .adcHlRp _ => true
  | .ldNnRp _ _ => true
  | .ldRpNni _ _ => true
  | .neg _ => true
  | .retn y => isRetn y
  | .reti => true
  | .im _ => true
  | .ldIA => true
  | .ldRA => true
  | .ldAI => true
  | .ldAR => true
  | .rrd => true
  | .rld => true
  | .edNopX1 y => isTopPair y
  | .ldi => true
  | .cpi => true
  | .ini => true
  | .outi => true
  | .ldd => true
  | .cpd => true
  | .ind => true
  | .outd => true
  | .ldir => true
  | .cpir => true
  | .inir => true
  | .otir => true
  | .lddr => true
  | .cpdr => true
  | .indr => true
  | .otdr => true
  | .edNopX2 y z => isOutsideBlock y z
  | .edNopX0 _ _ => true
  | .edNopX3 _ _ => true
  | .loneDdFd _ _ => true
  | .loneEd _ => true
  | .addIRp _ _ => true
  | .ldINn _ _ => true
  | .ldNnI _ _ => true
  | .incI _ => true
  | .ldINni _ _ => true
  | .decI _ => true
  | .incID _ _ => true
  | .decID _ _ => true
  | .ldIDN _ _ _ => true
  | .ldRID _ y _ => isRegister y
  | .ldIDR _ _ z => isRegister z
  | .addID _ _ => true
  | .adcID _ _ => true
  | .subID _ _ => true
  | .sbcID _ _ => true
  | .andID _ _ => true
  | .xorID _ _ => true
  | .orID _ _ => true
  | .cpID _ _ => true
  | .popI _ => true
  | .exSpI _ => true
  | .pushI _ => true
  | .jpI _ => true
  | .ldSpI _ => true
  | .passNop _ => true
  | .passExAfAf _ => true
  | .passDjnz _ _ => true
  | .passJr _ _ => true
  | .passJrCc _ y _ => isJrCondition y
  | .passLdRpNn _ p _ => isPassPair p
  | .passLdBcA _ => true
  | .passLdDeA _ => true
  | .passLdNnA _ _ => true
  | .passLdABc _ => true
  | .passLdADe _ => true
  | .passLdANni _ _ => true
  | .passIncRp _ p => isPassPair p
  | .passDecRp _ p => isPassPair p
  | .passIncR _ y => isRegister y
  | .passDecR _ y => isRegister y
  | .passLdRN _ y _ => isRegister y
  | .passRlca _ => true
  | .passRrca _ => true
  | .passRla _ => true
  | .passRra _ => true
  | .passDaa _ => true
  | .passCpl _ => true
  | .passScf _ => true
  | .passCcf _ => true
  | .passLdRR _ y z => isRegister y && isRegister z
  | .passHalt _ => true
  | .passAddR _ z => isRegister z
  | .passAdcR _ z => isRegister z
  | .passSubR _ z => isRegister z
  | .passSbcR _ z => isRegister z
  | .passAndR _ z => isRegister z
  | .passXorR _ z => isRegister z
  | .passOrR _ z => isRegister z
  | .passCpR _ z => isRegister z
  | .passRetCc _ _ => true
  | .passPopRp2 _ p => isPassPair p
  | .passRet _ => true
  | .passExx _ => true
  | .passJpCcNn _ _ _ => true
  | .passJpNn _ _ => true
  | .passOutNA _ _ => true
  | .passInAN _ _ => true
  | .passExDeHl _ => true
  | .passDi _ => true
  | .passEi _ => true
  | .passCallCcNn _ _ _ => true
  | .passPushRp2 _ p => isPassPair p
  | .passCallNn _ _ => true
  | .passAddN _ _ => true
  | .passAdcN _ _ => true
  | .passSubN _ _ => true
  | .passSbcN _ _ => true
  | .passAndN _ _ => true
  | .passXorN _ _ => true
  | .passOrN _ _ => true
  | .passCpN _ _ => true
  | .passRst _ _ => true
  | .xcbRlc _ _ _ => true
  | .xcbRrc _ _ _ => true
  | .xcbRl _ _ _ => true
  | .xcbRr _ _ _ => true
  | .xcbSla _ _ _ => true
  | .xcbSra _ _ _ => true
  | .xcbSll _ _ _ => true
  | .xcbSrl _ _ _ => true
  | .xcbBit _ _ _ _ => true
  | .xcbRes _ _ _ _ => true
  | .xcbSet _ _ _ _ => true

end Sys2Proof
end

