-- ==== Sys2Proof/Decode.lean ====
section
/-! DEFINITION. The bitfield extractor (42_tables_and_bitfields.md R130, R131), the decoder, total on any bytes
(30_encoding.md R86 to R92; files 43 to 48), and after it the encoder, written from the same encodings
(30_encoding.md R76, R97). -/

namespace Sys2Proof

/-! ## Bits and bytes -/

/-- `hi8(w) = w[15:8]` (00_scope.md R8). -/
def hi8 (w : Word) : Byte := w.extractLsb' 8 8

/-- `lo8(w) = w[7:0]` (00_scope.md R8). -/
def lo8 (w : Word) : Byte := w.extractLsb' 0 8

/-- `(high << 8) | low` (41_channel_ops.md R114). -/
def wordOf (high low : Byte) : Word := high ++ low

/-- `swap16(w) = (lo8(w) << 8) | hi8(w)` (00_scope.md R8). -/
def swap16 (w : Word) : Word := wordOf (lo8 w) (hi8 w)

/-- The 16-bit operand whose bytes stand in memory in the order `first`, `second`: the swap of what `readWord` composes
(30_encoding.md R82). -/
def operandWord (first second : Byte) : Word := swap16 (wordOf first second)

/-- `fields(b)`: `X = b[7:6]`, `Y = b[5:3]`, `Z = b[2:0]` (42_tables_and_bitfields.md R130). -/
def fields (b : Byte) : Fields :=
  ⟨Fin.ofNat 4 (b.toNat / 64), Fin.ofNat 8 (b.toNat / 8), Fin.ofNat 8 b.toNat⟩

/-- `P = Y >> 1` (42_tables_and_bitfields.md R131). -/
def Fields.p (f : Fields) : Fin 4 := Fin.ofNat 4 (f.y.val / 2)

/-- `Q = Y & 1` (42_tables_and_bitfields.md R131). -/
def Fields.q (f : Fields) : Fin 2 := Fin.ofNat 2 f.y.val

/-- The opcode byte with the fields `X`, `Y`, `Z`: `b = (X << 6) | (Y << 3) | Z` (42_tables_and_bitfields.md R130). -/
def op (x : Fin 4) (y z : Fin 8) : Byte := BitVec.ofNat 8 (64 * x.val + 8 * y.val + z.val)

/-- `Y = (P << 1) | Q` (42_tables_and_bitfields.md R131). -/
def ofPQ (p : Fin 4) (q : Fin 2) : Fin 8 := Fin.ofNat 8 (2 * p.val + q.val)

/-- The byte of an index-register prefix: `DD` is `IX`, `FD` is `IY` (42_tables_and_bitfields.md R143; 30_encoding.md R77). -/
def prefixByte : IndexReg → Byte
  | .ix => 0xDD
  | .iy => 0xFD

/-- The prefix class of a first byte (30_encoding.md R78; 49_disassembler.md R360). -/
def classify (b0 : Byte) : PrefixClass :=
  if b0 = 0xCB then .cb
  else if b0 = 0xED then .ed
  else if b0 = 0xDD then .ddfd .ix
  else if b0 = 0xFD then .ddfd .iy
  else .unprefixed

/-! ## Lengths -/

/-- `MEMSET`: the second bytes whose unprefixed form has the memory operand `(HL)` (48_decode_ddfd.md R306). -/
def memSet : List Byte :=
  [0x34, 0x35, 0x36, 0x46, 0x4E, 0x56, 0x5E, 0x66, 0x6E, 0x7E, 0x70, 0x71, 0x72, 0x73, 0x74, 0x75, 0x77,
   0x86, 0x8E, 0x96, 0x9E, 0xA6, 0xAE, 0xB6, 0xBE]

/-- `PAIRSET`: the second bytes whose unprefixed text names the pair `HL` (48_decode_ddfd.md R306). -/
def pairSet : List Byte :=
  [0x09, 0x19, 0x29, 0x39, 0x21, 0x22, 0x23, 0x2A, 0x2B, 0xE1, 0xE3, 0xE5, 0xE9, 0xF9]

/-- The unprefixed bytes with a 16-bit operand (30_encoding.md R79). -/
def wordOperandBytes : List Byte :=
  [0x01, 0x11, 0x21, 0x31, 0x22, 0x2A, 0x32, 0x3A, 0xC2, 0xCA, 0xD2, 0xDA, 0xE2, 0xEA, 0xF2, 0xFA, 0xC3,
   0xC4, 0xCC, 0xD4, 0xDC, 0xE4, 0xEC, 0xF4, 0xFC, 0xCD]

/-- The unprefixed bytes with an 8-bit operand (30_encoding.md R79). -/
def byteOperandBytes : List Byte :=
  [0x06, 0x0E, 0x16, 0x1E, 0x26, 0x2E, 0x36, 0x3E, 0x10, 0x18, 0x20, 0x28, 0x30, 0x38,
   0xC6, 0xCE, 0xD6, 0xDE, 0xE6, 0xEE, 0xF6, 0xFE, 0xD3, 0xDB]

/-- `ulen(b)`: the length of the unprefixed form of a byte (30_encoding.md R79). -/
def unprefixedLength (b : Byte) : Nat :=
  1 + (if wordOperandBytes.contains b then 2 else if byteOperandBytes.contains b then 1 else 0)

/-- `length(b0, b1)`: the length of the instruction that starts with these bytes (30_encoding.md R79). -/
def lengthOf (b0 b1 : Byte) : Nat :=
  match classify b0 with
  | .cb => 2
  | .ed => if (fields b1).x == 1 && (fields b1).z == 3 then 4 else 2
  | .ddfd _ =>
    if b1 == 0xDD || b1 == 0xED || b1 == 0xFD then 1
    else if b1 == 0xCB then 4
    else if memSet.contains b1 then (if b1 == 0x36 then 4 else 3)
    else 1 + unprefixedLength b1
  | .unprefixed => unprefixedLength b0

/-- How many bytes the decoder reads: the length, but two for a lone prefix, whose next byte is looked at and not
consumed (30_encoding.md R85; 48_decode_ddfd.md R310). -/
def readsOf (b0 b1 : Byte) : Nat := 
  if lengthOf b0 b1 == 1 && (b0 == 0xDD || b0 == 0xFD) then 2 else lengthOf b0 b1

/-! ## The decoder -/

/-- Column `Z` of `X = 0` (43_decode_unprefixed_x0.md). -/
def decodeX0 (f : Fields) (b1 b2 : Byte) : Instr :=
  match f.z with
  | 0 =>
    match f.y with
    | 0 => .nop
    | 1 => .exAfAf
    | 2 => .djnz b1
    | 3 => .jr b1
    | 4 | 5 | 6 | 7 => .jrCc f.y b1
  | 1 => if f.q = 0 then .ldRpNn f.p (operandWord b1 b2) else .addHlRp f.p
  | 2 =>
    match f.y with
    | 0 => .ldBcA
    | 1 => .ldABc
    | 2 => .ldDeA
    | 3 => .ldADe
    | 4 => .ldNnHl (operandWord b1 b2)
    | 5 => .ldHlNni (operandWord b1 b2)
    | 6 => .ldNnA (operandWord b1 b2)
    | 7 => .ldANni (operandWord b1 b2)
  | 3 => if f.q = 0 then .incRp f.p else .decRp f.p
  | 4 => if f.y = 6 then .incM else .incR f.y
  | 5 => if f.y = 6 then .decM else .decR f.y
  | 6 => if f.y = 6 then .ldMN b1 else .ldRN f.y b1
  | 7 =>
    match f.y with
    | 0 => .rlca
    | 1 => .rrca
    | 2 => .rla
    | 3 => .rra
    | 4 => .daa
    | 5 => .cpl
    | 6 => .scf
    | 7 => .ccf

/-- `X = 1`: the 8-bit loads and `HALT` (44_decode_unprefixed_x1_x2.md R190 to R193). -/
def decodeX1 (f : Fields) : Instr :=
  if f.z = 6 then (if f.y = 6 then .halt else .ldRM f.y)
  else if f.y = 6 then .ldMR f.z
  else .ldRR f.y f.z

/-- `X = 2`: the accumulator operations (44_decode_unprefixed_x1_x2.md R194 to R209). -/
def decodeX2 (f : Fields) : Instr :=
  match f.y with
  | 0 => if f.z = 6 then .addM else .addR f.z
  | 1 => if f.z = 6 then .adcM else .adcR f.z
  | 2 => if f.z = 6 then .subM else .subR f.z
  | 3 => if f.z = 6 then .sbcM else .sbcR f.z
  | 4 => if f.z = 6 then .andM else .andR f.z
  | 5 => if f.z = 6 then .xorM else .xorR f.z
  | 6 => if f.z = 6 then .orM else .orR f.z
  | 7 => if f.z = 6 then .cpM else .cpR f.z

/-- `X = 3` (45_decode_unprefixed_x3.md). The four prefix cells R241 to R244 only hand over: `atCb`, `atEd` and `atDdFd`
are the decodes of the class decoders. -/
def decodeX3 (atCb atEd : Instr) (atDdFd : IndexReg → Instr) (f : Fields) (b1 b2 : Byte) : Instr :=
  match f.z with
  | 0 => .retCc f.y
  | 1 =>
    match f.y with
    | 0 | 2 | 4 | 6 => .popRp2 f.p
    | 1 => .ret
    | 3 => .exx
    | 5 => .jpHl
    | 7 => .ldSpHl
  | 2 => .jpCcNn f.y (operandWord b1 b2)
  | 3 =>
    match f.y with
    | 0 => .jpNn (operandWord b1 b2)
    | 1 => atCb
    | 2 => .outNA b1
    | 3 => .inAN b1
    | 4 => .exSpHl
    | 5 => .exDeHl
    | 6 => .di
    | 7 => .ei
  | 4 => .callCcNn f.y (operandWord b1 b2)
  | 5 =>
    match f.y with
    | 0 | 2 | 4 | 6 => .pushRp2 f.p
    | 1 => .callNn (operandWord b1 b2)
    | 3 => atDdFd .ix
    | 5 => atEd
    | 7 => atDdFd .iy
  | 6 =>
    match f.y with
    | 0 => .addN b1
    | 1 => .adcN b1
    | 2 => .subN b1
    | 3 => .sbcN b1
    | 4 => .andN b1
    | 5 => .xorN b1
    | 6 => .orN b1
    | 7 => .cpN b1
  | 7 => .rst f.y

/-- The unprefixed map: dispatch on `X`, then on `Z` or `Y` (30_encoding.md R86). `b1` and `b2` are the bytes that follow
the opcode byte. -/
def decodeUnprefixed (atCb atEd : Instr) (atDdFd : IndexReg → Instr) (opcode b1 b2 : Byte) : Instr :=
  match (fields opcode).x with
  | 0 => decodeX0 (fields opcode) b1 b2
  | 1 => decodeX1 (fields opcode)
  | 2 => decodeX2 (fields opcode)
  | 3 => decodeX3 atCb atEd atDdFd (fields opcode) b1 b2

/-- The CB map (30_encoding.md R87; 46_decode_cb.md). A second `CB` is an operation byte: `CB CB` is `SET 1,E`, by
46_decode_cb.md R260, and not the `RES 1,E` that a remark of 45_decode_unprefixed_x3.md R241 gives (DESIGN CHOICE,
log 25). -/
def decodeCb (opcode : Byte) : Instr :=
  match (fields opcode).x with
  | 0 =>
    match (fields opcode).y with
    | 0 => .cbRlc (fields opcode).z
    | 1 => .cbRrc (fields opcode).z
    | 2 => .cbRl (fields opcode).z
    | 3 => .cbRr (fields opcode).z
    | 4 => .cbSla (fields opcode).z
    | 5 => .cbSra (fields opcode).z
    | 6 => .cbSll (fields opcode).z
    | 7 => .cbSrl (fields opcode).z
  | 1 => .cbBit (fields opcode).y (fields opcode).z
  | 2 => .cbRes (fields opcode).y (fields opcode).z
  | 3 => .cbSet (fields opcode).y (fields opcode).z

/-- Column `Z` of the ED map, `X = 1` (47_decode_ed.md R265 to R283). -/
def decodeEdX1 (f : Fields) (b2 b3 : Byte) : Instr :=
  match f.z with
  | 0 => if f.y = 6 then .inC else .inRC f.y
  | 1 => if f.y = 6 then .outC0 else .outCR f.y
  | 2 => if f.q = 0 then .sbcHlRp f.p else .adcHlRp f.p
  | 3 => if f.q = 0 then .ldNnRp f.p (operandWord b2 b3) else .ldRpNni f.p (operandWord b2 b3)
  | 4 => .neg f.y
  | 5 => if f.y = 1 then .reti else .retn f.y
  | 6 => .im f.y
  | 7 =>
    match f.y with
    | 0 => .ldIA
    | 1 => .ldRA
    | 2 => .ldAI
    | 3 => .ldAR
    | 4 => .rrd
    | 5 => .rld
    | 6 | 7 => .edNopX1 f.y

/-- The sixteen block cells of the ED map and the fallback around them, `X = 2` (47_decode_ed.md R284 to R300). -/
def decodeEdX2 (f : Fields) : Instr :=
  match f.y, f.z with
  | 4, 0 => .ldi
  | 4, 1 => .cpi
  | 4, 2 => .ini
  | 4, 3 => .outi
  | 5, 0 => .ldd
  | 5, 1 => .cpd
  | 5, 2 => .ind
  | 5, 3 => .outd
  | 6, 0 => .ldir
  | 6, 1 => .cpir
  | 6, 2 => .inir
  | 6, 3 => .otir
  | 7, 0 => .lddr
  | 7, 1 => .cpdr
  | 7, 2 => .indr
  | 7, 3 => .otdr
  | y, z => .edNopX2 y z

/-- The ED map (30_encoding.md R88; 47_decode_ed.md). -/
def decodeEd (opcode b2 b3 : Byte) : Instr :=
  match (fields opcode).x with
  | 0 => .edNopX0 (fields opcode).y (fields opcode).z
  | 1 => decodeEdX1 (fields opcode) b2 b3
  | 2 => decodeEdX2 (fields opcode)
  | 3 => .edNopX3 (fields opcode).y (fields opcode).z

/-- The `DD CB d op` and `FD CB d op` map: the displacement stands before the operation byte
(30_encoding.md R80, R90; 48_decode_ddfd.md R336 to R346). -/
def decodeXcb (ir : IndexReg) (d opcode : Byte) : Instr :=
  match (fields opcode).x with
  | 0 =>
    match (fields opcode).y with
    | 0 => .xcbRlc ir d (fields opcode).z
    | 1 => .xcbRrc ir d (fields opcode).z
    | 2 => .xcbRl ir d (fields opcode).z
    | 3 => .xcbRr ir d (fields opcode).z
    | 4 => .xcbSla ir d (fields opcode).z
    | 5 => .xcbSra ir d (fields opcode).z
    | 6 => .xcbSll ir d (fields opcode).z
    | 7 => .xcbSrl ir d (fields opcode).z
  | 1 => .xcbBit ir d (fields opcode).y (fields opcode).z
  | 2 => .xcbRes ir d (fields opcode).y (fields opcode).z
  | 3 => .xcbSet ir d (fields opcode).y (fields opcode).z

/-- The form a `DD` or `FD` prefix makes of the unprefixed form of its second byte: the forms with `(HL)` get a
displacement `b2`, the forms with the pair `HL` name the index register, every other form passes through
(48_decode_ddfd.md R305 to R307, R335). What is not an unprefixed form is the lone prefix or a `CB` form, already
complete (R305, first two branches). -/
def indexForm (ir : IndexReg) (b2 b3 : Byte) : Instr → Instr
  -- HL becomes I
  | .addHlRp p => .addIRp ir p
  | .ldRpNn p nn => if p = 2 then .ldINn ir nn else .passLdRpNn ir p nn
  | .ldNnHl nn => .ldNnI ir nn
  | .incRp p => if p = 2 then .incI ir else .passIncRp ir p
  | .ldHlNni nn => .ldINni ir nn
  | .decRp p => if p = 2 then .decI ir else .passDecRp ir p
  | .popRp2 p => if p = 2 then .popI ir else .passPopRp2 ir p
  | .exSpHl => .exSpI ir
  | .pushRp2 p => if p = 2 then .pushI ir else .passPushRp2 ir p
  | .jpHl => .jpI ir
  | .ldSpHl => .ldSpI ir
  -- (HL) becomes (I+d)
  | .incM => .incID ir b2
  | .decM => .decID ir b2
  | .ldMN _ => .ldIDN ir b2 b3
  | .ldRM y => .ldRID ir y b2
  | .ldMR z => .ldIDR ir b2 z
  | .addM => .addID ir b2
  | .adcM => .adcID ir b2
  | .subM => .subID ir b2
  | .sbcM => .sbcID ir b2
  | .andM => .andID ir b2
  | .xorM => .xorID ir b2
  | .orM => .orID ir b2
  | .cpM => .cpID ir b2
  -- pass-through
  | .nop => .passNop ir
  | .exAfAf => .passExAfAf ir
  | .djnz d => .passDjnz ir d
  | .jr d => .passJr ir d
  | .jrCc y d => .passJrCc ir y d
  | .ldBcA => .passLdBcA ir
  | .ldDeA => .passLdDeA ir
  | .ldNnA nn => .passLdNnA ir nn
  | .ldABc => .passLdABc ir
  | .ldADe => .passLdADe ir
  | .ldANni nn => .passLdANni ir nn
  | .incR y => .passIncR ir y
  | .decR y => .passDecR ir y
  | .ldRN y n => .passLdRN ir y n
  | .rlca => .passRlca ir
  | .rrca => .passRrca ir
  | .rla => .passRla ir
  | .rra => .passRra ir
  | .daa => .passDaa ir
  | .cpl => .passCpl ir
  | .scf => .passScf ir
  | .ccf => .passCcf ir
  | .ldRR y z => .passLdRR ir y z
  | .halt => .passHalt ir
  | .addR z => .passAddR ir z
  | .adcR z => .passAdcR ir z
  | .subR z => .passSubR ir z
  | .sbcR z => .passSbcR ir z
  | .andR z => .passAndR ir z
  | .xorR z => .passXorR ir z
  | .orR z => .passOrR ir z
  | .cpR z => .passCpR ir z
  | .retCc y => .passRetCc ir y
  | .ret => .passRet ir
  | .exx => .passExx ir
  | .jpCcNn y nn => .passJpCcNn ir y nn
  | .jpNn nn => .passJpNn ir nn
  | .outNA n => .passOutNA ir n
  | .inAN n => .passInAN ir n
  | .exDeHl => .passExDeHl ir
  | .di => .passDi ir
  | .ei => .passEi ir
  | .callCcNn y nn => .passCallCcNn ir y nn
  | .callNn nn => .passCallNn ir nn
  | .addN n => .passAddN ir n
  | .adcN n => .passAdcN ir n
  | .subN n => .passSubN ir n
  | .sbcN n => .passSbcN ir n
  | .andN n => .passAndN ir n
  | .xorN n => .passXorN ir n
  | .orN n => .passOrN ir n
  | .cpN n => .passCpN ir n
  | .rst y => .passRst ir y
  | complete => complete

/-- The decode after a `DD` or `FD` first byte: the five-way split of 48_decode_ddfd.md R305. -/
def decodeDdFd (ir : IndexReg) (b1 b2 b3 : Byte) : Instr :=
  indexForm ir b2 b3
    (decodeUnprefixed (decodeXcb ir b2 b3) (.loneEd ir) (fun jr => .loneDdFd ir jr) b1 b2 b3)

/-- The decode of the bytes `b0 b1 b2 b3`: total, one dispatch, no re-entry (30_encoding.md R92; 49_disassembler.md R361,
R362). Bytes a form does not read do not matter (30_encoding.md R85). -/
def decode (b0 b1 b2 b3 : Byte) : Instr :=
  decodeUnprefixed (decodeCb b1) (decodeEd b1 b2 b3) (fun ir => decodeDdFd ir b1 b2 b3) b0 b1 b2

/-- Why a list of bytes holds no whole instruction. The block itself never meets this: target memory has no end
(30_encoding.md R92). -/
inductive DecodeError where
  /-- no byte at all -/
  | noBytes
  /-- fewer bytes than the decoder would read -/
  | truncated
deriving DecidableEq, Repr

/-- Byte `k` of a list, zero past its end. -/
def byteAt (bs : List Byte) (k : Nat) : Byte := bs.getD k 0

/-- The instruction at the head of a list of bytes, and the bytes after it; the last byte the decoder reads must be
there. -/
def decodeBytes (bs : List Byte) : Except DecodeError (Instr × List Byte) :=
  if bs.isEmpty then .error .noBytes
  else if (bs.drop (readsOf (byteAt bs 0) (byteAt bs 1) - 1)).isEmpty then .error .truncated
  else .ok (decode (byteAt bs 0) (byteAt bs 1) (byteAt bs 2) (byteAt bs 3),
            bs.drop (lengthOf (byteAt bs 0) (byteAt bs 1)))

/-! ## The encoder -/

/-- The bytes of an instruction, in memory order (30_encoding.md R76, R80, R97). -/
def encode : Instr → List Byte
  | .nop => [op 0 0 0]
  | .exAfAf => [op 0 1 0]
  | .djnz d => [op 0 2 0, d]
  | .jr d => [op 0 3 0, d]
  | .jrCc y d => [op 0 y 0, d]
  | .ldRpNn p nn => [op 0 (ofPQ p 0) 1, lo8 nn, hi8 nn]
  | .addHlRp p => [op 0 (ofPQ p 1) 1]
  | .ldBcA => [op 0 0 2]
  | .ldDeA => [op 0 2 2]
  | .ldNnHl nn => [op 0 4 2, lo8 nn, hi8 nn]
  | .ldNnA nn => [op 0 6 2, lo8 nn, hi8 nn]
  | .ldABc => [op 0 1 2]
  | .ldADe => [op 0 3 2]
  | .ldHlNni nn => [op 0 5 2, lo8 nn, hi8 nn]
  | .ldANni nn => [op 0 7 2, lo8 nn, hi8 nn]
  | .incRp p => [op 0 (ofPQ p 0) 3]
  | .decRp p => [op 0 (ofPQ p 1) 3]
  | .incR y => [op 0 y 4]
  | .incM => [op 0 6 4]
  | .decR y => [op 0 y 5]
  | .decM => [op 0 6 5]
  | .ldRN y n => [op 0 y 6, n]
  | .ldMN n => [op 0 6 6, n]
  | .rlca => [op 0 0 7]
  | .rrca => [op 0 1 7]
  | .rla => [op 0 2 7]
  | .rra => [op 0 3 7]
  | .daa => [op 0 4 7]
  | .cpl => [op 0 5 7]
  | .scf => [op 0 6 7]
  | .ccf => [op 0 7 7]
  | .ldRR y z => [op 1 y z]
  | .ldRM y => [op 1 y 6]
  | .ldMR z => [op 1 6 z]
  | .halt => [op 1 6 6]
  | .addR z => [op 2 0 z]
  | .addM => [op 2 0 6]
  | .adcR z => [op 2 1 z]
  | .adcM => [op 2 1 6]
  | .subR z => [op 2 2 z]
  | .subM => [op 2 2 6]
  | .sbcR z => [op 2 3 z]
  | .sbcM => [op 2 3 6]
  | .andR z => [op 2 4 z]
  | .andM => [op 2 4 6]
  | .xorR z => [op 2 5 z]
  | .xorM => [op 2 5 6]
  | .orR z => [op 2 6 z]
  | .orM => [op 2 6 6]
  | .cpR z => [op 2 7 z]
  | .cpM => [op 2 7 6]
  | .retCc y => [op 3 y 0]
  | .popRp2 p => [op 3 (ofPQ p 0) 1]
  | .ret => [op 3 1 1]
  | .exx => [op 3 3 1]
  | .jpHl => [op 3 5 1]
  | .ldSpHl => [op 3 7 1]
  | .jpCcNn y nn => [op 3 y 2, lo8 nn, hi8 nn]
  | .jpNn nn => [op 3 0 3, lo8 nn, hi8 nn]
  | .outNA n => [op 3 2 3, n]
  | .inAN n => [op 3 3 3, n]
  | .exSpHl => [op 3 4 3]
  | .exDeHl => [op 3 5 3]
  | .di => [op 3 6 3]
  | .ei => [op 3 7 3]
  | .callCcNn y nn => [op 3 y 4, lo8 nn, hi8 nn]
  | .pushRp2 p => [op 3 (ofPQ p 0) 5]
  | .callNn nn => [op 3 1 5, lo8 nn, hi8 nn]
  | .addN n => [op 3 0 6, n]
  | .adcN n => [op 3 1 6, n]
  | .subN n => [op 3 2 6, n]
  | .sbcN n => [op 3 3 6, n]
  | .andN n => [op 3 4 6, n]
  | .xorN n => [op 3 5 6, n]
  | .orN n => [op 3 6 6, n]
  | .cpN n => [op 3 7 6, n]
  | .rst y => [op 3 y 7]
  | .cbRlc z => [0xCB, op 0 0 z]
  | .cbRrc z => [0xCB, op 0 1 z]
  | .cbRl z => [0xCB, op 0 2 z]
  | .cbRr z => [0xCB, op 0 3 z]
  | .cbSla z => [0xCB, op 0 4 z]
  | .cbSra z => [0xCB, op 0 5 z]
  | .cbSll z => [0xCB, op 0 6 z]
  | .cbSrl z => [0xCB, op 0 7 z]
  | .cbBit y z => [0xCB, op 1 y z]
  | .cbRes y z => [0xCB, op 2 y z]
  | .cbSet y z => [0xCB, op 3 y z]
  | .inRC y => [0xED, op 1 y 0]
  | .inC => [0xED, op 1 6 0]
  | .outCR y => [0xED, op 1 y 1]
  | .outC0 => [0xED, op 1 6 1]
  | .sbcHlRp p => [0xED, op 1 (ofPQ p 0) 2]
  | .adcHlRp p => [0xED, op 1 (ofPQ p 1) 2]
  | .ldNnRp p nn => [0xED, op 1 (ofPQ p 0) 3, lo8 nn, hi8 nn]
  | .ldRpNni p nn => [0xED, op 1 (ofPQ p 1) 3, lo8 nn, hi8 nn]
  | .neg y => [0xED, op 1 y 4]
  | .retn y => [0xED, op 1 y 5]
  | .reti => [0xED, op 1 1 5]
  | .im y => [0xED, op 1 y 6]
  | .ldIA => [0xED, op 1 0 7]
  | .ldRA => [0xED, op 1 1 7]
  | .ldAI => [0xED, op 1 2 7]
  | .ldAR => [0xED, op 1 3 7]
  | .rrd => [0xED, op 1 4 7]
  | .rld => [0xED, op 1 5 7]
  | .edNopX1 y => [0xED, op 1 y 7]
  | .ldi => [0xED, op 2 4 0]
  | .cpi => [0xED, op 2 4 1]
  | .ini => [0xED, op 2 4 2]
  | .outi => [0xED, op 2 4 3]
  | .ldd => [0xED, op 2 5 0]
  | .cpd => [0xED, op 2 5 1]
  | .ind => [0xED, op 2 5 2]
  | .outd => [0xED, op 2 5 3]
  | .ldir => [0xED, op 2 6 0]
  | .cpir => [0xED, op 2 6 1]
  | .inir => [0xED, op 2 6 2]
  | .otir => [0xED, op 2 6 3]
  | .lddr => [0xED, op 2 7 0]
  | .cpdr => [0xED, op 2 7 1]
  | .indr => [0xED, op 2 7 2]
  | .otdr => [0xED, op 2 7 3]
  | .edNopX2 y z => [0xED, op 2 y z]
  | .edNopX0 y z => [0xED, op 0 y z]
  | .edNopX3 y z => [0xED, op 3 y z]
  | .loneDdFd ir _ => [prefixByte ir]
  | .loneEd ir => [prefixByte ir]
  | .addIRp ir p => [prefixByte ir, op 0 (ofPQ p 1) 1]
  | .ldINn ir nn => [prefixByte ir, op 0 4 1, lo8 nn, hi8 nn]
  | .ldNnI ir nn => [prefixByte ir, op 0 4 2, lo8 nn, hi8 nn]
  | .incI ir => [prefixByte ir, op 0 4 3]
  | .ldINni ir nn => [prefixByte ir, op 0 5 2, lo8 nn, hi8 nn]
  | .decI ir => [prefixByte ir, op 0 5 3]
  | .incID ir d => [prefixByte ir, op 0 6 4, d]
  | .decID ir d => [prefixByte ir, op 0 6 5, d]
  | .ldIDN ir d n => [prefixByte ir, op 0 6 6, d, n]
  | .ldRID ir y d => [prefixByte ir, op 1 y 6, d]
  | .ldIDR ir d z => [prefixByte ir, op 1 6 z, d]
  | .addID ir d => [prefixByte ir, op 2 0 6, d]
  | .adcID ir d => [prefixByte ir, op 2 1 6, d]
  | .subID ir d => [prefixByte ir, op 2 2 6, d]
  | .sbcID ir d => [prefixByte ir, op 2 3 6, d]
  | .andID ir d => [prefixByte ir, op 2 4 6, d]
  | .xorID ir d => [prefixByte ir, op 2 5 6, d]
  | .orID ir d => [prefixByte ir, op 2 6 6, d]
  | .cpID ir d => [prefixByte ir, op 2 7 6, d]
  | .popI ir => [prefixByte ir, op 3 4 1]
  | .exSpI ir => [prefixByte ir, op 3 4 3]
  | .pushI ir => [prefixByte ir, op 3 4 5]
  | .jpI ir => [prefixByte ir, op 3 5 1]
  | .ldSpI ir => [prefixByte ir, op 3 7 1]
  | .passNop ir => [prefixByte ir, op 0 0 0]
  | .passExAfAf ir => [prefixByte ir, op 0 1 0]
  | .passDjnz ir d => [prefixByte ir, op 0 2 0, d]
  | .passJr ir d => [prefixByte ir, op 0 3 0, d]
  | .passJrCc ir y d => [prefixByte ir, op 0 y 0, d]
  | .passLdRpNn ir p nn => [prefixByte ir, op 0 (ofPQ p 0) 1, lo8 nn, hi8 nn]
  | .passLdBcA ir => [prefixByte ir, op 0 0 2]
  | .passLdDeA ir => [prefixByte ir, op 0 2 2]
  | .passLdNnA ir nn => [prefixByte ir, op 0 6 2, lo8 nn, hi8 nn]
  | .passLdABc ir => [prefixByte ir, op 0 1 2]
  | .passLdADe ir => [prefixByte ir, op 0 3 2]
  | .passLdANni ir nn => [prefixByte ir, op 0 7 2, lo8 nn, hi8 nn]
  | .passIncRp ir p => [prefixByte ir, op 0 (ofPQ p 0) 3]
  | .passDecRp ir p => [prefixByte ir, op 0 (ofPQ p 1) 3]
  | .passIncR ir y => [prefixByte ir, op 0 y 4]
  | .passDecR ir y => [prefixByte ir, op 0 y 5]
  | .passLdRN ir y n => [prefixByte ir, op 0 y 6, n]
  | .passRlca ir => [prefixByte ir, op 0 0 7]
  | .passRrca ir => [prefixByte ir, op 0 1 7]
  | .passRla ir => [prefixByte ir, op 0 2 7]
  | .passRra ir => [prefixByte ir, op 0 3 7]
  | .passDaa ir => [prefixByte ir, op 0 4 7]
  | .passCpl ir => [prefixByte ir, op 0 5 7]
  | .passScf ir => [prefixByte ir, op 0 6 7]
  | .passCcf ir => [prefixByte ir, op 0 7 7]
  | .passLdRR ir y z => [prefixByte ir, op 1 y z]
  | .passHalt ir => [prefixByte ir, op 1 6 6]
  | .passAddR ir z => [prefixByte ir, op 2 0 z]
  | .passAdcR ir z => [prefixByte ir, op 2 1 z]
  | .passSubR ir z => [prefixByte ir, op 2 2 z]
  | .passSbcR ir z => [prefixByte ir, op 2 3 z]
  | .passAndR ir z => [prefixByte ir, op 2 4 z]
  | .passXorR ir z => [prefixByte ir, op 2 5 z]
  | .passOrR ir z => [prefixByte ir, op 2 6 z]
  | .passCpR ir z => [prefixByte ir, op 2 7 z]
  | .passRetCc ir y => [prefixByte ir, op 3 y 0]
  | .passPopRp2 ir p => [prefixByte ir, op 3 (ofPQ p 0) 1]
  | .passRet ir => [prefixByte ir, op 3 1 1]
  | .passExx ir => [prefixByte ir, op 3 3 1]
  | .passJpCcNn ir y nn => [prefixByte ir, op 3 y 2, lo8 nn, hi8 nn]
  | .passJpNn ir nn => [prefixByte ir, op 3 0 3, lo8 nn, hi8 nn]
  | .passOutNA ir n => [prefixByte ir, op 3 2 3, n]
  | .passInAN ir n => [prefixByte ir, op 3 3 3, n]
  | .passExDeHl ir => [prefixByte ir, op 3 5 3]
  | .passDi ir => [prefixByte ir, op 3 6 3]
  | .passEi ir => [prefixByte ir, op 3 7 3]
  | .passCallCcNn ir y nn => [prefixByte ir, op 3 y 4, lo8 nn, hi8 nn]
  | .passPushRp2 ir p => [prefixByte ir, op 3 (ofPQ p 0) 5]
  | .passCallNn ir nn => [prefixByte ir, op 3 1 5, lo8 nn, hi8 nn]
  | .passAddN ir n => [prefixByte ir, op 3 0 6, n]
  | .passAdcN ir n => [prefixByte ir, op 3 1 6, n]
  | .passSubN ir n => [prefixByte ir, op 3 2 6, n]
  | .passSbcN ir n => [prefixByte ir, op 3 3 6, n]
  | .passAndN ir n => [prefixByte ir, op 3 4 6, n]
  | .passXorN ir n => [prefixByte ir, op 3 5 6, n]
  | .passOrN ir n => [prefixByte ir, op 3 6 6, n]
  | .passCpN ir n => [prefixByte ir, op 3 7 6, n]
  | .passRst ir y => [prefixByte ir, op 3 y 7]
  | .xcbRlc ir d z => [prefixByte ir, 0xCB, d, op 0 0 z]
  | .xcbRrc ir d z => [prefixByte ir, 0xCB, d, op 0 1 z]
  | .xcbRl ir d z => [prefixByte ir, 0xCB, d, op 0 2 z]
  | .xcbRr ir d z => [prefixByte ir, 0xCB, d, op 0 3 z]
  | .xcbSla ir d z => [prefixByte ir, 0xCB, d, op 0 4 z]
  | .xcbSra ir d z => [prefixByte ir, 0xCB, d, op 0 5 z]
  | .xcbSll ir d z => [prefixByte ir, 0xCB, d, op 0 6 z]
  | .xcbSrl ir d z => [prefixByte ir, 0xCB, d, op 0 7 z]
  | .xcbBit ir d y z => [prefixByte ir, 0xCB, d, op 1 y z]
  | .xcbRes ir d y z => [prefixByte ir, 0xCB, d, op 2 y z]
  | .xcbSet ir d y z => [prefixByte ir, 0xCB, d, op 3 y z]

/-- The bytes a form looks at and does not consume: the second prefix after a lone prefix (48_decode_ddfd.md R310). -/
def lookahead : Instr → List Byte
  | .loneDdFd _ jr => [prefixByte jr]
  | .loneEd _ => [0xED]
  | _ => []

/-! ## The numbering of the opcode table -/

/-- The bytes of a word of spec/opcode_table.json: `match` and `mask` are the examined bytes concatenated with `b0` most
significant (30_encoding.md R97), and the first byte of a form longer than one byte is never 0 (log 6). -/
def tableBytes (w : Nat) : List Byte :=
  if w < 0x100 then [BitVec.ofNat 8 w]
  else if w < 0x10000 then [BitVec.ofNat 8 (w / 0x100), BitVec.ofNat 8 w]
  else if w < 0x1000000 then [BitVec.ofNat 8 (w / 0x10000), BitVec.ofNat 8 (w / 0x100), BitVec.ofNat 8 w]
  else [BitVec.ofNat 8 (w / 0x1000000), BitVec.ofNat 8 (w / 0x10000), BitVec.ofNat 8 (w / 0x100), BitVec.ofNat 8 w]

/-- The instruction's bytes with operand bytes of zero after them, four in all; the examined bytes count, also where a row
is shorter than they are (the lone prefix). -/
def tableWindow (w : Nat) : List Byte := (tableBytes (w % 0x100000000) ++ [0, 0, 0, 0]).take 4

/-- The instruction the decoder reads from the bits `w` of a row of spec/opcode_table.json; the table's rows have at most
32 bits. -/
def decodeTableWord (nbits w : Nat) : Option Instr :=
  if nbits ≤ 32 then
    match decodeBytes (tableWindow w) with
    | .ok (i, _) => some i
    | .error _ => none
  else none

end Sys2Proof
end

