-- ==== Sys2Proof/Machine/State.lean ====
section
/-! DEFINITION. All the state the spec gives the block and its environment (10_state.md R20), the operations a step can
call, the reasons a step can stop, and the state at controller power-on (10_state.md R39; 70_reset_and_hazards.md R390). -/

namespace Sys2Proof.Machine

/-- The level of the clock line (10_state.md R21). -/
inductive Level where
  | low
  | high
deriving DecidableEq, Repr

/-- The direction of the controller's eight data pins (10_state.md R24). -/
inductive DataDir where
  | inPullup
  | out
deriving DecidableEq, Repr

/-- Whether the controller's idea of the Z80's place in its machine cycle is right (10_state.md R27). -/
inductive Sync where
  | unknown
  | boundary
  | lost
deriving DecidableEq, Repr

/-- The events of the pin trace (10_state.md R26). -/
inductive PinEvent where
  | pulse
  | driveData (v : Byte)
  | releaseData
  | sample (v : Byte)
  | ovrAssert
  | ovrRelease
  | rstAssert
  | rstRelease
deriving DecidableEq, Repr

/-- The BusDriver primitives (40_busdriver_ops.md R100 to R107). -/
inductive BusOp where
  | pulse (n : Nat)
  | setDataBusOutput (value : Byte)
  | setDataBusInput
  | sampleDataBus
  | assertRamOverride
  | releaseRamOverride
  | assertReset
  | releaseReset
deriving DecidableEq, Repr

/-- What the monitor may call (60_exceptions.md R384; 70_reset_and_hazards.md R394); a primitive called directly is the
case of 70_reset_and_hazards.md R403 (log 9). -/
inductive HostCall where
  | resetCpu
  | loadIndexRegister (value : Word)
  | readByte (address : Word)
  | readWord (address : Word)
  | writeByte (address : Word) (value : Byte)
  | disassembleOne (address : Word)
  | primitive (busOp : BusOp)
deriving DecidableEq, Repr

/-- What a decode returns, with the decoder state of that call: the prefix class and index name, the bitfield tuple of
the opcode byte, the text, the length and the new address (10_state.md R31 to R34; 49_disassembler.md R361). -/
structure Decoded where
  pfx : PrefixClass
  tuple : Fields
  text : Text
  len : Nat
  newAddress : Word
deriving DecidableEq, Repr

/-- What the last call that returns something returned (log 14). -/
inductive Returned where
  | byte (v : Byte)
  | word (w : Word)
  | decoded (d : Decoded)
deriving DecidableEq, Repr

/-- Target memory: the listed bytes, addresses strictly rising, none equal to what an unlisted address reads as (log 1). -/
abbrev Memory := List Host.Cell

/-- Where the Z80 stands in its machine cycles: the T-state it has finished last (41_channel_ops.md R115; log 15). `t`
counts finished T-states. -/
inductive Phase where
  /-- an opcode fetch M1, `t` of its T-states done; `t = 0` is a Boundary -/
  | fetch (t : Nat)
  /-- an opcode fetch whose opcode is taken, `left` T-states still to go -/
  | fetchTail (opcode : Byte) (left : Nat)
  /-- a memory-read cycle of operand byte `k` (0 or 1), `t` of its T-states done; `low` is operand byte 0 -/
  | operand (opcode : Byte) (k : Nat) (low : Byte) (t : Nat)
  /-- the memory-read cycle of `LD A,(HL)` at HL -/
  | readHl (t : Nat)
  /-- the memory-write cycle of `LD (HL),n` at HL -/
  | writeHl (n : Byte) (t : Nat)
  /-- an opcode outside the four, or bytes taken where the contract gives none -/
  | other
deriving DecidableEq, Repr

/-- The Z80's position, which the hardware has and the controller cannot see (10_state.md R27). -/
inductive Z80Place where
  /-- not known: any (93_implementation_defined.md U1) -/
  | unknown
  /-- in reset, `n` pulses since `assertReset` was called last (41_channel_ops.md R110, step 2; log 9) -/
  | resetting (n : Nat)
  /-- out of reset after a reset of full length, `n` pulses since (41_channel_ops.md R110, step 4) -/
  | starting (n : Nat)
  /-- in a machine cycle -/
  | cycle (phase : Phase)
deriving DecidableEq, Repr

/-- The machine. `pinTrace`, `pulseTotal`, `readTrace` and `sync` are the spec's own ghost state; `calls`, `returned`
and `freeTick` are the model's (logs 7, 12, 14). -/
structure State where
  /-- the clock line (10_state.md R21) -/
  clk : Level
  /-- the Z80's reset line (10_state.md R22) -/
  rst : Line
  /-- the RAM chip-enable override (10_state.md R23) -/
  ramOvr : Line
  /-- the direction of the data pins (10_state.md R24) -/
  dbusDir : DataDir
  /-- the byte driven while `dbusDir = out` (10_state.md R24); with the pins as inputs the last byte driven, log 22 -/
  dbusOut : Byte
  /-- what BusDriver did, in order (10_state.md R26) -/
  pinTrace : List PinEvent
  /-- the number of clock pulses (10_state.md R26) -/
  pulseTotal : Nat
  /-- the Z80's phase as the controller knows it (10_state.md R27) -/
  sync : Sync
  /-- the Z80's position, as far as the rules fix it: at a Boundary the start of an opcode fetch (10_state.md R27; log 9) -/
  z80Place : Z80Place
  /-- the Z80's HL, the channel's pointer (10_state.md R28) -/
  z80HL : Word
  /-- the Z80's accumulator (10_state.md R29) -/
  z80A : Byte
  /-- the Z80's program counter (10_state.md R30) -/
  z80PC : Word
  /-- the Z80's flag register F, which no injected instruction changes (70_reset_and_hazards.md R401) -/
  z80F : Byte
  /-- the Z80's refresh register R, which every opcode fetch increments (10_state.md R30; 70_reset_and_hazards.md R401) -/
  z80R : Byte
  /-- the Z80's maskable interrupts are enabled (70_reset_and_hazards.md R392) -/
  z80IntEnable : Bool
  /-- the Z80's interrupt mode (70_reset_and_hazards.md R392) -/
  z80IntMode : InterruptMode
  /-- HL has been loaded in this session (41_channel_ops.md R113; 93_implementation_defined.md U4) -/
  hlLoaded : Bool
  /-- target memory `TMEM` (10_state.md R36) -/
  memory : Memory
  /-- the address cursor (10_state.md R31) -/
  pc : Word
  /-- the target addresses read, in order (00_scope.md R11) -/
  readTrace : List Word
  /-- the monitor's pending calls, oldest first (log 12) -/
  calls : List HostCall
  /-- what the last call that returns something returned (log 14) -/
  returned : Option Returned
  /-- how many free values have been drawn (log 7) -/
  freeTick : Nat
deriving DecidableEq, Repr

/-- What stops the machine. -/
inductive Fault where
  /-- Raised by every BusDriver primitive in or into a state with `dbus_dir = OUT` and `ram_ovr = RELEASED`: an electrical
  condition without a successor (10_state.md R25; 40_busdriver_ops.md R101, R105; 93_implementation_defined.md U3). Safe. -/
  | busFight
deriving DecidableEq, Repr

/-- Why an operation is refused. Each but the first is a `require` line of the spec, which the spec lets a model turn into
a refusal (40_busdriver_ops.md R108). -/
inductive Refusal where
  /-- An instruction that has no meaning yet; raised by no arm of this model. Safe. -/
  | notModelled (mnemonic : String)
  /-- Raised by `pulse` when the clock line is not LOW (40_busdriver_ops.md R100). Safe. -/
  | clockNotLow
  /-- Raised by `sampleDataBus` while the controller drives (40_busdriver_ops.md R103). Safe. -/
  | sampleWhileDriving
  /-- Raised by `assertRamOverride` at a Boundary when the override is asserted already (40_busdriver_ops.md R104); off a
  Boundary the line stays asserted (log 11). Safe. -/
  | overrideAlreadyAsserted
  /-- Raised by `releaseRamOverride` at a Boundary when the override is not asserted (40_busdriver_ops.md R105); off a
  Boundary the line stays released (log 11). Safe. -/
  | overrideNotAsserted
  /-- Raised by `resetCpu` when a broken caller left the override asserted (41_channel_ops.md R110;
  70_reset_and_hazards.md R393). Safe. -/
  | overrideLeftAsserted
  /-- Raised by `writeByte` at a Boundary when HL has not been loaded in this session (41_channel_ops.md R113;
  93_implementation_defined.md U4). Safe. -/
  | cursorNotLoaded
  /-- Raised by `writeByte` at a Boundary when `z80.HL` differs from its address argument (41_channel_ops.md R113;
  93_implementation_defined.md U4). Safe. -/
  | cursorMismatch
deriving DecidableEq, Repr

/-- Controller power-on with the RAM holding `ram`: the initial memory is a parameter (10_state.md R39;
93_implementation_defined.md U8). The fields without a value in the spec hold the values of logs 2, 3 and 9. -/
def State.powerOn (ram : Memory) : State where
  clk := .low
  rst := Config.resetLineAtPowerOn
  ramOvr := .released
  dbusDir := .inPullup
  dbusOut := 0x00
  pinTrace := []
  pulseTotal := 0
  sync := .unknown
  z80Place := .unknown
  z80HL := 0x0000
  z80A := 0x00
  z80PC := 0x0000
  z80F := 0x00
  z80R := 0x00
  z80IntEnable := false
  z80IntMode := .mode0
  hlLoaded := false
  memory := ram
  pc := 0x0000
  readTrace := []
  calls := []
  returned := none
  freeTick := 0

/-- The machine right after reset (10_state.md R39; 70_reset_and_hazards.md R390): controller power-on, nothing listed
in memory (log 1). -/
def State.reset : State := State.powerOn []

end Sys2Proof.Machine
end

