-- ==== Sys2Proof/Machine/Ops.lean ====
section
/-! DEFINITION. The named operations over target memory and the pins: reading and writing a byte of memory, the BusDriver
primitives (40_busdriver_ops.md R100 to R108), desync (60_exceptions.md R371) and what a desynced instruction does
(93_implementation_defined.md U1). The block has no exception entry and no return from one (60_exceptions.md R379,
R380): `raiseDesync` is the only thing the spec calls raising. -/

namespace Sys2Proof.Machine

/-- The outcome of an operation that leaves a state. -/
abbrev Result := Host.Outcome State Fault Refusal

/-- Do the second operation with what the first one leaves; a stop is a stop. -/
def andThen {α β : Type} (first : Host.Outcome α Fault Refusal) (second : α → Host.Outcome β Fault Refusal) :
    Host.Outcome β Fault Refusal :=
  match first with
  | .next a => second a
  | .fault f => .fault f
  | .refused r => .refused r

/-! ## Target memory -/

/-- What an address that is not listed reads as (log 1). -/
def unlistedByte : Byte := 0x00

/-- `TMEM[a]`. -/
def Memory.read : Memory → Nat → Byte
  | [], _ => unlistedByte
  | (b, v) :: rest, a => if a = b then v else Memory.read rest a

/-- The list with every entry of address `a` taken out. -/
def Memory.erase : Memory → Nat → Memory
  | [], _ => []
  | (b, v) :: rest, a => if a = b then Memory.erase rest a else (b, v) :: Memory.erase rest a

/-- The list with `(a, v)` put in at its place; `a` is not listed. -/
def Memory.insert : Memory → Nat → Byte → Memory
  | [], a, v => [(a, v)]
  | (b, w) :: rest, a, v => if a < b then (a, v) :: (b, w) :: rest else (b, w) :: Memory.insert rest a v

/-- `TMEM[a] <- v`, keeping the canonical form. -/
def Memory.write (m : Memory) (a : Nat) (v : Byte) : Memory :=
  if v = unlistedByte then m.erase a else (m.erase a).insert a v

/-- Every address listed lies above `low` and rises, within the target space, and no byte equals the unlisted one. -/
def Memory.wfAbove : Nat → Memory → Bool
  | _, [] => true
  | low, (a, v) :: rest => low ≤ a && a < 0x10000 && v != unlistedByte && Memory.wfAbove (a + 1) rest

/-- The canonical form: addresses strictly rising, below 2^16, no entry equal to what an unlisted address reads as. -/
def Memory.wf (m : Memory) : Bool := Memory.wfAbove 0 m

/-- The writes of a list, in order, at addresses modulo 2^16. -/
def Memory.writeAll : Memory → List Host.Cell → Memory
  | m, [] => m
  | m, (a, v) :: rest => Memory.writeAll (m.write (a % 0x10000) v) rest

/-! ## The refresh register -/

/-- R after `fetches` opcode fetches: the low seven bits count, bit 7 stays (10_state.md R30 says that every opcode fetch
increments R; that seven bits count is PRESUMED from the Z80 family, log 23). -/
def advanceR (fetches : Nat) (r : Byte) : Byte :=
  BitVec.ofNat 8 (r.toNat / 128 * 128 + (r.toNat % 128 + fetches) % 128)

/-! ## Desync -/

/-- `raise Desync`: `sync <- LOST`; nothing else happens at that moment (60_exceptions.md R371; 00_scope.md R9). -/
def raiseDesync (s : State) : State := { s with sync := .lost }

/-- The Z80's registers and its place in a machine cycle where nothing is known of them: free values
(41_channel_ops.md R120; log 7). -/
def garbleRegisters (s : State) : State :=
  { s with
    z80Place := .unknown
    z80HL := Config.freeHL s.freeTick
    z80A := Config.freeA s.freeTick
    z80PC := Config.freePC s.freeTick
    z80F := Config.freeF s.freeTick
    z80R := Config.freeR s.freeTick
    z80IntEnable := Config.freeIntEnable s.freeTick
    z80IntMode := Config.freeIntMode s.freeTick
    freeTick := s.freeTick + 1 }

/-- What the Z80 may do to the hidden state while it is desynced: any byte of memory and any Z80 register may change;
`sync` stays as it is (41_channel_ops.md R120; 93_implementation_defined.md U1). -/
def garble (s : State) : State :=
  { garbleRegisters s with memory := s.memory.writeAll (Config.scramble s.freeTick) }

/-! ## BusDriver primitives -/

/-- The bus-ownership invariant is broken: the controller drives while the RAM is not held off (10_state.md R25). -/
def busFight (s : State) : Bool := s.dbusDir == .out && s.ramOvr == .released

/-- R100 of 40_busdriver_ops.md: `n` clock pulses; the line returns to LOW. What the Z80 does with them is the effect of
the schedule they belong to (41_channel_ops.md R115 to R119). -/
def pulse (n : Nat) (s : State) : Result :=
  if s.clk = .low then
    .next { s with pinTrace := s.pinTrace ++ List.replicate n .pulse, pulseTotal := s.pulseTotal + n }
  else .refused .clockNotLow

/-- R101: drive a byte. Without the override it is a bus fight. -/
def setDataBusOutput (value : Byte) (s : State) : Result :=
  if s.ramOvr = .asserted then
    .next { s with dbusDir := .out, dbusOut := value, pinTrace := s.pinTrace ++ [.driveData value] }
  else .fault .busFight

/-- R102: stop driving. `dbus_out` is not written; U8 lets it be any value from here on (DESIGN CHOICE, log 22). -/
def setDataBusInput (s : State) : Result :=
  .next { s with dbusDir := .inPullup, pinTrace := s.pinTrace ++ [.releaseData] }

/-- R103: take the byte `bus` the bus carries. -/
def sampleDataBus (bus : Byte) (s : State) : Result :=
  if s.dbusDir = .inPullup then .next { s with pinTrace := s.pinTrace ++ [.sample bus] }
  else .refused .sampleWhileDriving

/-- R104: hold the RAM off the bus. Asserting twice is refused at a Boundary; off a Boundary the line stays asserted
(60_exceptions.md R371 (b); 93_implementation_defined.md U2; DESIGN CHOICE, log 11). -/
def assertRamOverride (s : State) : Result :=
  if s.ramOvr = .asserted ∧ s.sync = .boundary then .refused .overrideAlreadyAsserted
  else .next { s with ramOvr := .asserted, pinTrace := s.pinTrace ++ [.ovrAssert] }

/-- R105: give the RAM back. Releasing while the controller drives is a bus fight. Releasing an override that is not
asserted is refused at a Boundary; off a Boundary the line stays released (60_exceptions.md R371 (b); DESIGN CHOICE, log 11). -/
def releaseRamOverride (s : State) : Result :=
  if s.ramOvr = .released ∧ s.sync = .boundary then .refused .overrideNotAsserted
  else if s.dbusDir = .out then .fault .busFight
  else .next { s with ramOvr := .released, pinTrace := s.pinTrace ++ [.ovrRelease] }

/-- R106: hold the Z80 in reset. -/
def assertReset (s : State) : Result :=
  .next { s with rst := .asserted, pinTrace := s.pinTrace ++ [.rstAssert] }

/-- R107: release the Z80 from reset. -/
def releaseReset (s : State) : Result :=
  .next { s with rst := .released, pinTrace := s.pinTrace ++ [.rstRelease] }

/-- One primitive, `bus` being what the data bus carries if it samples. A state with a bus fight has no successor
(93_implementation_defined.md U3). -/
def runOp (bus : Byte) (busOp : BusOp) (s : State) : Result :=
  if busFight s then .fault .busFight
  else
    match busOp with
    | .pulse n => pulse n s
    | .setDataBusOutput value => setDataBusOutput value s
    | .setDataBusInput => setDataBusInput s
    | .sampleDataBus => sampleDataBus bus s
    | .assertRamOverride => assertRamOverride s
    | .releaseRamOverride => releaseRamOverride s
    | .assertReset => assertReset s
    | .releaseReset => releaseReset s

/-- A straight-line schedule, run to completion (41_channel_ops.md R122; 70_reset_and_hazards.md R399). -/
def runSchedule (bus : Byte) : List BusOp → State → Result
  | [], s => .next s
  | o :: rest, s => andThen (runOp bus o s) (runSchedule bus rest)

end Sys2Proof.Machine
end

