-- ==== Sys2Proof/Machine/Schedule.lean ====
section
/-! DEFINITION. The parameters of the sequencer (00_scope.md R7) and the clock schedules of the channel, one primitive per
numbered step (41_channel_ops.md R110 to R113). -/

namespace Sys2Proof.Machine

/-- `N_RESET_ASSERTED`: pulses with reset asserted (00_scope.md R7). -/
def nResetAsserted : Nat := 6

/-- `N_RESET_RELEASED`: pulses after reset is released (00_scope.md R7). -/
def nResetReleased : Nat := 2

/-- `OPC_LD_HL_NN` (30_encoding.md R98). -/
def opcLdHlNn : Byte := 0x21

/-- `OPC_LD_A_HL` (30_encoding.md R98). -/
def opcLdAHl : Byte := 0x7E

/-- `OPC_LD_HL_N` (30_encoding.md R98). -/
def opcLdHlN : Byte := 0x36

/-- `OPC_INC_HL` (30_encoding.md R98). -/
def opcIncHl : Byte := 0x23

/-- `T_LD_HL_NN` (70_reset_and_hazards.md R405). -/
def tLdHlNn : Nat := 10

/-- `T_LD_A_HL` (70_reset_and_hazards.md R405). -/
def tLdAHl : Nat := 7

/-- `T_LD_HL_N` (70_reset_and_hazards.md R405). -/
def tLdHlN : Nat := 10

/-- `T_INC_HL` (70_reset_and_hazards.md R405). -/
def tIncHl : Nat := 6

/-- `resetCpu`, steps 1 to 4 (41_channel_ops.md R110). -/
def scheduleResetCpu : List BusOp :=
  [.assertReset, .pulse nResetAsserted, .releaseReset, .pulse nResetReleased]

/-- The forced `LD HL,nn`: `loadIndexRegister`, steps 1 to 12 (41_channel_ops.md R111). -/
def scheduleLdHlNn (value : Word) : List BusOp :=
  [.pulse 1, .assertRamOverride, .setDataBusOutput opcLdHlNn, .pulse 2, .setDataBusInput, .pulse 2,
   .setDataBusOutput (lo8 value), .pulse 3, .setDataBusOutput (hi8 value), .pulse 2, .setDataBusInput,
   .releaseRamOverride]

/-- The forced `LD A,(HL)`: `readByte`, steps 1 to 9 (41_channel_ops.md R112). -/
def scheduleLdAHl : List BusOp :=
  [.pulse 1, .assertRamOverride, .setDataBusOutput opcLdAHl, .pulse 2, .setDataBusInput, .releaseRamOverride,
   .pulse 3, .sampleDataBus, .pulse 1]

/-- The forced `LD (HL),n`: `writeByte`, steps 1 to 11 (41_channel_ops.md R113). -/
def scheduleLdHlN (value : Byte) : List BusOp :=
  [.pulse 1, .assertRamOverride, .setDataBusOutput opcLdHlN, .pulse 2, .setDataBusInput, .pulse 2,
   .setDataBusOutput value, .pulse 2, .setDataBusInput, .releaseRamOverride, .pulse 3]

/-- The forced `INC HL`: `writeByte`, steps 12 to 18 (41_channel_ops.md R113). -/
def scheduleIncHl : List BusOp :=
  [.pulse 1, .assertRamOverride, .setDataBusOutput opcIncHl, .pulse 2, .setDataBusInput, .releaseRamOverride,
   .pulse 3]

end Sys2Proof.Machine
end

