-- ==== Sys2Proof/Machine/Channel.lean ====
section
/-! DEFINITION. The operations of the ForcedExecutionChannel (41_channel_ops.md R110 to R122): each runs its schedule to
completion; its forced instructions have the effects R116 to R119 when the Z80 stands at a Boundary and are garbage
otherwise (R120). -/

namespace Sys2Proof.Machine

/-! ## The effects of the four forced instructions on the Z80 and on memory

Each is one opcode fetch, so each increments R once (10_state.md R30; 70_reset_and_hazards.md R401); none writes F. -/

/-- R116: the forced `LD HL,nn`. -/
def effectLdHlNn (value : Word) (s : State) : State :=
  { s with z80HL := value, z80PC := s.z80PC + 3, z80R := advanceR 1 s.z80R, hlLoaded := true }

/-- R117: the forced `LD A,(HL)`. -/
def effectLdAHl (s : State) : State :=
  { s with z80A := s.memory.read s.z80HL.toNat, z80PC := s.z80PC + 1, z80R := advanceR 1 s.z80R }

/-- R118: the forced `LD (HL),n`. -/
def effectLdHlN (value : Byte) (s : State) : State :=
  { s with memory := s.memory.write s.z80HL.toNat value, z80PC := s.z80PC + 2, z80R := advanceR 1 s.z80R }

/-- R119: the forced `INC HL`, modulo 2^16. -/
def effectIncHl (s : State) : State :=
  { s with z80HL := s.z80HL + 1, z80PC := s.z80PC + 1, z80R := advanceR 1 s.z80R }

/-- A forced instruction: the whole schedule whatever the Z80 is doing, then its effect at a Boundary, garbage from
UNKNOWN or LOST (41_channel_ops.md R120; 93_implementation_defined.md U1). -/
def forcedInstruction (bus : Byte) (schedule : List BusOp) (effect : State → State) (s : State) : Result :=
  andThen (runSchedule bus schedule s) fun s' =>
    .next (if s'.sync = .boundary then effect s' else garble s')

/-! ## The operations -/

/-- The state after the last pulse of `resetCpu` (41_channel_ops.md R110; 70_reset_and_hazards.md R392): a Boundary at
address 0, maskable interrupts disabled, interrupt mode 0, HL and A unspecified (free values, as F and R, log 8), nothing
loaded in the new session. `dbus_out`, which 10_state.md R39 leaves unspecified here, keeps the last byte driven:
DESIGN CHOICE, log 22. -/
def effectResetCpu (s : State) : State :=
  { s with
    sync := .boundary
    z80PC := 0x0000
    z80HL := Config.freeHL s.freeTick
    z80A := Config.freeA s.freeTick
    z80F := Config.freeF s.freeTick
    z80R := Config.freeR s.freeTick
    z80IntEnable := false
    z80IntMode := .mode0
    hlLoaded := false
    freeTick := s.freeTick + 1
    z80Place := .cycle (.fetch 0) }

/-- R110: `resetCpu()`. It requires the override released and the data bus an input, and repairs neither. -/
def resetCpu (s : State) : Result :=
  if busFight s then .fault .busFight
  else if s.ramOvr = .asserted then .refused .overrideLeftAsserted
  else andThen (runSchedule 0xFF scheduleResetCpu s) fun s' => .next (effectResetCpu s')

/-- R111: `loadIndexRegister(value)`. -/
def loadIndexRegister (value : Word) (s : State) : Result :=
  forcedInstruction 0xFF (scheduleLdHlNn value) (effectLdHlNn value) s

/-- The byte the bus carries at the sample of `readByte` (41_channel_ops.md R112 step 8, R117): the RAM drives
`TMEM[z80.HL]`; any byte when desynced. -/
def sampledByte (s : State) : Byte :=
  if s.sync = .boundary then s.memory.read s.z80HL.toNat else Config.freeByte s.freeTick

/-- R112: `readByte(address)`, with the byte it returns. The read trace gains the address (00_scope.md R11). -/
def readByte (address : Word) (s : State) : Host.Outcome (Byte × State) Fault Refusal :=
  andThen (loadIndexRegister address s) fun s1 =>
    andThen (forcedInstruction (sampledByte s1) scheduleLdAHl effectLdAHl s1) fun s2 =>
      .next (sampledByte s1, { s2 with readTrace := s2.readTrace ++ [address] })

/-- R114: `readWord(address)`: the first byte read is the more significant one. -/
def readWord (address : Word) (s : State) : Host.Outcome (Word × State) Fault Refusal :=
  andThen (readByte address s) fun first =>
    andThen (readByte (address + 1) first.2) fun second =>
      .next (wordOf first.1 second.1, second.2)

/-- The two forced instructions of `writeByte`: `LD (HL),n` then `INC HL` (41_channel_ops.md R113). -/
def storeAndAdvance (value : Byte) (s : State) : Result :=
  andThen (forcedInstruction 0xFF (scheduleLdHlN value) (effectLdHlN value) s) fun s1 =>
    forcedInstruction 0xFF scheduleIncHl effectIncHl s1

/-- R113: `writeByte(address, value)`. The address is never transmitted: at a Boundary it must be what HL holds (U4);
desynced the call runs and is garbage (U1). -/
def writeByte (address : Word) (value : Byte) (s : State) : Result :=
  if s.sync = .boundary then
    (if s.hlLoaded = false then .refused .cursorNotLoaded
     else if s.z80HL ≠ address then .refused .cursorMismatch
     else storeAndAdvance value s)
  else storeAndAdvance value s

/-- `MemWrite(a, 1, v)`: `loadIndexRegister(a)` followed by `writeByte(a, v)` (00_scope.md R9). -/
def memWrite (address : Word) (value : Byte) (s : State) : Result :=
  andThen (loadIndexRegister address s) (writeByte address value)

/-- `count` reads at consecutive addresses, lowest first, each address once (30_encoding.md R85; 20_memory.md R57). -/
def readBytes : Nat → Word → State → Host.Outcome (List Byte × State) Fault Refusal
  | 0, _, s => .next ([], s)
  | count + 1, address, s =>
    andThen (readByte address s) fun first =>
      andThen (readBytes count (address + 1) first.2) fun rest =>
        .next (first.1 :: rest.1, rest.2)

end Sys2Proof.Machine
end

