-- ==== Sys2Proof/Machine/TState.lean ====
section
/-! DEFINITION. The machine-cycle contract of the target CPU, one T-state per pulse (41_channel_ops.md R115): the clear
machine that the net effects R116 to R119 of the schedules are checked against, and that direct calls step through. It
knows the four injected instructions; any other opcode is `other`, of which R115 says nothing. -/

namespace Sys2Proof.Machine.TState

/-- The Z80 and the RAM at the level of T-states, with the pins of the controller. -/
structure CycleState where
  ramOvr : Line
  dbusDir : DataDir
  dbusOut : Byte
  phase : Phase
  hl : Word
  a : Byte
  z80pc : Word
  f : Byte
  r : Byte
  memory : Memory
  /-- the bytes `sampleDataBus` returned, oldest first -/
  sampled : List Byte
  /-- the controller drove while it must not: without the override, or in a memory-write cycle (U3) -/
  fought : Bool
deriving DecidableEq, Repr

/-- The address of the memory read the Z80 requests: it places the address in T1 and requests until the byte is taken in
T3 (R115). Nothing is requested before the first T-state of a cycle is done. -/
def readRequest (m : CycleState) : Option Word :=
  match m.phase with
  | .fetch (_ + 1) => some m.z80pc
  | .operand _ _ _ (_ + 1) => some m.z80pc
  | .readHl (_ + 1) => some m.hl
  | .fetch 0 | .operand _ _ _ 0 | .readHl 0 | .fetchTail _ _ | .writeHl _ _ | .other => none

/-- The byte the Z80 itself drives: the data byte of a memory-write cycle, from T1 on (R115). -/
def z80Drives (m : CycleState) : Option Byte :=
  match m.phase with
  | .writeHl n (_ + 1) => some n
  | _ => none

/-- The Z80 is in a memory-write cycle. -/
def inWriteCycle (m : CycleState) : Bool :=
  match m.phase with
  | .writeHl _ _ => true
  | _ => false

/-- The byte on the data bus: the controller's, else the RAM's if it is not overridden and a read is requested, else the
Z80's own in a memory-write cycle, else 0xFF (R115). -/
def busByte (m : CycleState) : Byte :=
  if m.dbusDir = .out then m.dbusOut
  else
    match readRequest m, z80Drives m with
    | some address, _ => if m.ramOvr = .released then m.memory.read address.toNat else 0xFF
    | none, some n => n
    | none, none => 0xFF

/-- The controller drives without the override, or in a memory-write cycle of the Z80 (R25; U3). -/
def fights (m : CycleState) : Bool :=
  m.dbusDir == .out && (m.ramOvr == .released || inWriteCycle m)

/-- What follows the opcode fetch of one of the four instructions: how many T-states of M1 remain after T3, 1 (3 for
`INC HL`) (R115). -/
def afterOpcode (opcode : Byte) : Phase :=
  if opcode = opcIncHl then .fetchTail opcode 3
  else if opcode = opcLdHlNn ∨ opcode = opcLdAHl ∨ opcode = opcLdHlN then .fetchTail opcode 1
  else .other

/-- The cycle after M1. `INC HL` writes HL in the last T-state of M1: R115 and R119 give only its net effect, and in which
T-state HL changes is the model's choice (DESIGN CHOICE, log 24). -/
def afterFetch (m : CycleState) (opcode : Byte) : CycleState :=
  if opcode = opcIncHl then { m with hl := m.hl + 1, phase := .fetch 0 }
  else if opcode = opcLdAHl then { m with phase := .readHl 0 }
  else { m with phase := .operand opcode 0 0 0 }

/-- The end of an operand read: the next operand of `LD HL,nn`, its end, or the write cycle of `LD (HL),n`.
`LD HL,nn` writes both bytes of HL in the third T-state of the second operand's cycle, not L before H: R115 and R116 give
only its net effect, and in which T-state HL changes is the model's choice (DESIGN CHOICE, log 24). -/
def afterOperand (m : CycleState) (opcode : Byte) (k : Nat) (low byte : Byte) : CycleState :=
  if opcode = opcLdHlNn then
    (if k = 0 then { m with phase := .operand opcode 1 byte 0 }
     else { m with hl := wordOf byte low, phase := .fetch 0 })
  else { m with phase := .writeHl byte 0 }

/-- One pulse: the Z80 finishes one T-state. A byte is taken in the third one, and the program counter advances with each
byte the Z80 believes it fetched at PC, R with each opcode; a write lands in the third T-state if the RAM is not overridden
(R115). That PC, R and A change in the very T-state that takes the byte is the model's choice (DESIGN CHOICE, log 24). -/
def tick (m0 : CycleState) : CycleState :=
  let m := { m0 with fought := m0.fought || fights m0 }
  match m.phase with
  | .fetch t =>
    if t = 2 then
      { m with phase := afterOpcode (busByte m), z80pc := m.z80pc + 1, r := advanceR 1 m.r }
    else { m with phase := .fetch (t + 1) }
  | .fetchTail opcode left =>
    if left = 1 then afterFetch m opcode else { m with phase := .fetchTail opcode (left - 1) }
  | .operand opcode k low t =>
    if t = 2 then afterOperand { m with z80pc := m.z80pc + 1 } opcode k low (busByte m)
    else { m with phase := .operand opcode k low (t + 1) }
  | .readHl t =>
    if t = 2 then { m with a := busByte m, phase := .fetch 0 } else { m with phase := .readHl (t + 1) }
  | .writeHl n t =>
    if t = 2 then
      { m with
        memory := if m.ramOvr = .released then m.memory.write m.hl.toNat n else m.memory
        phase := .fetch 0 }
    else { m with phase := .writeHl n (t + 1) }
  | .other => m

/-- `n` pulses. -/
def ticks : Nat → CycleState → CycleState
  | 0, m => m
  | n + 1, m => ticks n (tick m)

/-- One primitive of the controller on the T-state machine. The reset line is not part of it: the schedules it checks run
with reset released. -/
def runOp (busOp : BusOp) (m : CycleState) : CycleState :=
  match busOp with
  | .pulse n => ticks n m
  | .setDataBusOutput value => { m with dbusDir := .out, dbusOut := value }
  | .setDataBusInput => { m with dbusDir := .inPullup }
  | .sampleDataBus => { m with sampled := m.sampled ++ [busByte m] }
  | .assertRamOverride => { m with ramOvr := .asserted }
  | .releaseRamOverride => { m with ramOvr := .released }
  | .assertReset => m
  | .releaseReset => m

/-- A schedule on the T-state machine. -/
def runSchedule : List BusOp → CycleState → CycleState
  | [], m => m
  | o :: rest, m => runSchedule rest (runOp o m)

/-- The T-state machine of a state at a Boundary. -/
def ofState (s : State) : CycleState where
  ramOvr := s.ramOvr
  dbusDir := s.dbusDir
  dbusOut := s.dbusOut
  phase := .fetch 0
  hl := s.z80HL
  a := s.z80A
  z80pc := s.z80PC
  f := s.z80F
  r := s.z80R
  memory := s.memory
  sampled := []
  fought := false

/-- The primitives of `count` reads from `address` on (R112, R114). -/
def readsSchedule : Nat → Word → List BusOp
  | 0, _ => []
  | count + 1, address => scheduleLdHlNn address ++ scheduleLdAHl ++ readsSchedule count (address + 1)

end Sys2Proof.Machine.TState
end

