-- ==== Sys2Proof/Machine/Direct.lean ====
section
/-! DEFINITION. A BusDriver primitive called directly, outside every schedule (70_reset_and_hazards.md R403; log 9): it is a
desync, and its pulses clock the Z80 T-state by T-state through the machine-cycle contract (40_busdriver_ops.md R100;
41_channel_ops.md R115) as far as the Z80's position is known. -/

namespace Sys2Proof.Machine

/-- The T-state machine of a state in which the Z80 stands at `phase`. -/
def cycleState (phase : Phase) (s : State) : TState.CycleState := { TState.ofState s with phase := phase }

/-- What the bus carries when a primitive samples it outside every schedule (40_busdriver_ops.md R103). In a known machine
cycle it is the byte of the contract: the RAM's if it is not overridden and a read is requested, the Z80's own in a write
cycle, else the pull-up's 0xFF (10_state.md R23, R24; 41_channel_ops.md R115). A Z80 in reset, or starting after it,
requests and drives nothing (R106; 70_reset_and_hazards.md R393). Elsewhere any device may drive any byte (log 9). -/
def directBusByte (s : State) : Byte :=
  if s.rst = .asserted then 0xFF
  else
    match s.z80Place with
    | .cycle phase => TState.busByte (cycleState phase s)
    | .starting _ => 0xFF
    | .resetting _ | .unknown => Config.freeByte s.freeTick

/-- The desync of a direct call: with the Z80 out of reset, any primitive outside a schedule (60_exceptions.md R371 (b),
(d); 70_reset_and_hazards.md R403; 93_implementation_defined.md U9). The Z80 itself stands where it stood. -/
def directDesync (s : State) : State := if s.rst = .released then raiseDesync s else s

/-! ## One T-state -/

/-- The place after a T-state of the contract; past an opcode outside the four it is not known. -/
def placeOf : Phase → Z80Place
  | .other => .unknown
  | .fetch t => .cycle (.fetch t)
  | .fetchTail opcode left => .cycle (.fetchTail opcode left)
  | .operand opcode k low t => .cycle (.operand opcode k low t)
  | .readHl t => .cycle (.readHl t)
  | .writeHl n t => .cycle (.writeHl n t)

/-- A T-state in a known machine cycle, as the contract gives it (41_channel_ops.md R115). -/
def tickCycle (phase : Phase) (s : State) : State :=
  let m := TState.tick (cycleState phase s)
  { s with
    z80Place := placeOf m.phase
    z80HL := m.hl
    z80A := m.a
    z80PC := m.z80pc
    z80F := m.f
    z80R := m.r
    memory := m.memory }

/-- A T-state where the Z80's position is not known: anything may change, but no write reaches an overridden RAM
(10_state.md R23; 93_implementation_defined.md U1). -/
def tickUnknown (s : State) : State := if s.ramOvr = .released then garble s else garbleRegisters s

/-- A T-state after a reset of full length: the last one leaves the Z80 at the start of an opcode fetch at address 0,
maskable interrupts disabled and interrupt mode 0, nothing fetched (70_reset_and_hazards.md R392, R393). -/
def tickStarting (n : Nat) (s : State) : State :=
  if n + 1 = nResetReleased then
    { s with z80Place := .cycle (.fetch 0), z80PC := 0x0000, z80IntEnable := false, z80IntMode := .mode0 }
  else { s with z80Place := .starting (n + 1) }

/-- A T-state in reset: no instruction executes, and the registers are whatever the reset sequence makes of them
(40_busdriver_ops.md R106). -/
def tickReset (s : State) : State :=
  { garbleRegisters s with
    z80Place := match s.z80Place with
      | .resetting n => .resetting (n + 1)
      | .unknown | .starting _ | .cycle _ => .unknown }

/-- One T-state of the Z80 outside every schedule. A controller that drives in a write cycle of the Z80 is a bus fight
(93_implementation_defined.md U3). -/
def directTState (s : State) : Result :=
  if s.rst = .asserted then .next (tickReset s)
  else
    match s.z80Place with
    | .cycle phase => if TState.fights (cycleState phase s) then .fault .busFight else .next (tickCycle phase s)
    | .starting n => .next (tickStarting n s)
    | .resetting _ | .unknown => .next (tickUnknown s)

/-- `n` such T-states: the Z80 counts the pulses, not the calls that make them (40_busdriver_ops.md R100). -/
def directTStates : Nat → State → Result
  | 0, s => .next s
  | n + 1, s => andThen (directTState s) (directTStates n)

/-! ## The primitive -/

/-- The place after the reset line is released: only a reset of exactly `N_RESET_ASSERTED` pulses leads to a known one
(41_channel_ops.md R110). -/
def placeOnRelease : Z80Place → Z80Place
  | .resetting n => if n = nResetAsserted then .starting 0 else .unknown
  | .starting n => .starting n
  | .cycle phase => .cycle phase
  | .unknown => .unknown

/-- What a direct call makes of the Z80 once its pin has moved: a pulse clocks it, the reset line stops and starts it, and
driving while it drives its own byte is a bus fight (40_busdriver_ops.md R100, R106, R107; 93_implementation_defined.md U3).
An `assertReset` with the line already asserted starts the count of a reset's pulses anew: R106 says only that it is
idempotent on the line, and which pulses count is the model's choice (DESIGN CHOICE, log 9). -/
def clockZ80 (busOp : BusOp) (s : State) : Result :=
  match busOp with
  | .pulse n => directTStates n s
  | .assertReset => .next { s with z80Place := .resetting 0 }
  | .releaseReset => .next { s with z80Place := placeOnRelease s.z80Place }
  | .setDataBusOutput _ =>
    match s.z80Place with
    | .cycle (.writeHl _ (_ + 1)) => .fault .busFight
    | _ => .next s
  | .setDataBusInput | .sampleDataBus | .assertRamOverride | .releaseRamOverride => .next s

/-- What the monitor has from a direct call made in state `s`: the byte a `sampleDataBus` took, for which a free value may
have been drawn; otherwise nothing new (40_busdriver_ops.md R103; logs 7, 14). -/
def recordSample (busOp : BusOp) (s t : State) : State :=
  match busOp with
  | .sampleDataBus => { t with returned := some (.byte (directBusByte s)), freeTick := t.freeTick + 1 }
  | .pulse _ | .setDataBusOutput _ | .setDataBusInput | .assertRamOverride | .releaseRamOverride | .assertReset
  | .releaseReset => t

/-- A primitive the monitor calls directly: a desync while the Z80 is out of reset; the primitive moves its pin, and
pulses clock the Z80 (70_reset_and_hazards.md R398, R403; 93_implementation_defined.md U9). -/
def directPrimitive (busOp : BusOp) (s : State) : Result :=
  andThen (runOp (directBusByte s) busOp (directDesync s)) fun t =>
    andThen (clockZ80 busOp t) fun u => .next (recordSample busOp s u)

end Sys2Proof.Machine
end

