-- ==== Sys2Proof/Machine/Operands.lean ====
section
/-! DEFINITION. The operand forms of the decoder: the number formats (00_scope.md R10), the opcode tables
(42_tables_and_bitfields.md R132 to R143; the condition names R135 stand in Flags.lean), the index-register substitutions
(48_decode_ddfd.md R307), and the one shared meaning of a decode: read the bytes, return text and length, advance the
cursor (49_disassembler.md R361, R366). -/

namespace Sys2Proof.Machine

/-! ## Number formats -/

/-- A text from its literal (00_scope.md R10). -/
def txt (literal : String) : Text := literal.toList

/-- A hexadecimal digit, upper case (`HEX_UPPER`, 00_scope.md R7, R10). -/
def hexDigit (d : Nat) : Char := (txt "0123456789ABCDEF").getD d '0'

/-- `hex2(v)`: the digits of `v[7:4]` then `v[3:0]` (00_scope.md R10). -/
def hex2 (v : Byte) : Text := [hexDigit (v.toNat / 16), hexDigit (v.toNat % 16)]

/-- `hex4(w) = hex2(hi8(w)) ++ hex2(lo8(w))` (00_scope.md R10). -/
def hex4 (w : Word) : Text := hex2 (hi8 w) ++ hex2 (lo8 w)

/-- `dec1(v)`: one decimal digit (00_scope.md R10). -/
def dec1 (v : Fin 8) : Text := [(txt "01234567").getD v.val '0']

/-! ## The opcode tables -/

/-- `register8[8]` (R132). -/
def register8 : Fin 8 → Text
  | 0 => txt "B"
  | 1 => txt "C"
  | 2 => txt "D"
  | 3 => txt "E"
  | 4 => txt "H"
  | 5 => txt "L"
  | 6 => txt "(HL)"
  | 7 => txt "A"

/-- `registerPair16[4]` (R133). -/
def registerPair16 : Fin 4 → Text
  | 0 => txt "BC"
  | 1 => txt "DE"
  | 2 => txt "HL"
  | 3 => txt "SP"

/-- `registerPair16Alt[4]` (R134). -/
def registerPair16Alt : Fin 4 → Text
  | 0 => txt "BC"
  | 1 => txt "DE"
  | 2 => txt "HL"
  | 3 => txt "AF"

/-- `aluOp[8]`, each entry with its own separator (R136). -/
def aluOp : Fin 8 → Text
  | 0 => txt "ADD A,"
  | 1 => txt "ADC A,"
  | 2 => txt "SUB "
  | 3 => txt "SBC A,"
  | 4 => txt "AND "
  | 5 => txt "XOR "
  | 6 => txt "OR "
  | 7 => txt "CP "

/-- `rotateOp[8]` (R137). -/
def rotateOp : Fin 8 → Text
  | 0 => txt "RLC"
  | 1 => txt "RRC"
  | 2 => txt "RL"
  | 3 => txt "RR"
  | 4 => txt "SLA"
  | 5 => txt "SRA"
  | 6 => txt "SLL"
  | 7 => txt "SRL"

/-- `accumulatorFlagOp[8]` (R138). -/
def accumulatorFlagOp : Fin 8 → Text
  | 0 => txt "RLCA"
  | 1 => txt "RRCA"
  | 2 => txt "RLA"
  | 3 => txt "RRA"
  | 4 => txt "DAA"
  | 5 => txt "CPL"
  | 6 => txt "SCF"
  | 7 => txt "CCF"

/-- `blockOp[4][4]`, indexed `[Y - 4][Z]` (R139). -/
def blockOp : Fin 4 → Fin 4 → Text
  | 0, 0 => txt "LDI"
  | 0, 1 => txt "CPI"
  | 0, 2 => txt "INI"
  | 0, 3 => txt "OUTI"
  | 1, 0 => txt "LDD"
  | 1, 1 => txt "CPD"
  | 1, 2 => txt "IND"
  | 1, 3 => txt "OUTD"
  | 2, 0 => txt "LDIR"
  | 2, 1 => txt "CPIR"
  | 2, 2 => txt "INIR"
  | 2, 3 => txt "OTIR"
  | 3, 0 => txt "LDDR"
  | 3, 1 => txt "CPDR"
  | 3, 2 => txt "INDR"
  | 3, 3 => txt "OTDR"

/-- `interruptMode[4]` (R140). -/
def interruptMode : Fin 4 → Text
  | 0 => txt "0"
  | 1 => txt "0/1"
  | 2 => txt "1"
  | 3 => txt "2"

/-- The index of `interruptMode`: `Y mod 4` (R140). -/
def modeIndex (y : Fin 8) : Fin 4 := Fin.ofNat 4 y.val

/-- `bitOp[3]`, indexed by `X - 1` (R141). -/
def bitOp : Fin 3 → Text
  | 0 => txt "BIT"
  | 1 => txt "RES"
  | 2 => txt "SET"

/-- `indirectStore[4]`; entries 2 and 3 hold the placeholder `nn` (R142). -/
def indirectStore : Fin 4 → Text
  | 0 => txt "LD (BC),A"
  | 1 => txt "LD (DE),A"
  | 2 => txt "LD (nn),HL"
  | 3 => txt "LD (nn),A"

/-- `indirectLoad[4]`; entries 2 and 3 hold the placeholder `nn` (R142). -/
def indirectLoad : Fin 4 → Text
  | 0 => txt "LD A,(BC)"
  | 1 => txt "LD A,(DE)"
  | 2 => txt "LD HL,(nn)"
  | 3 => txt "LD A,(nn)"

/-- `indexName[2]` (R143). -/
def indexName : IndexReg → Text
  | .ix => txt "IX"
  | .iy => txt "IY"

/-! ## Operands -/

/-- The template with its placeholder `nn` replaced by `hex4(nn)` (30_encoding.md R83). -/
def fillNn (nn : Word) : Text → Text
  | 'n' :: 'n' :: rest => hex4 nn ++ fillNn nn rest
  | c :: rest => c :: fillNn nn rest
  | [] => []

/-- The memory operand of an index form: `(I+d)`, the displacement printed as the unsigned byte it is
(30_encoding.md R84; 48_decode_ddfd.md R307). -/
def indexed (ir : IndexReg) (d : Byte) : Text := txt "(" ++ indexName ir ++ txt "+" ++ hex2 d ++ txt ")"

/-- The operand of a `DD CB` or `FD CB` form: `(I+d)` where the `CB` form has `(HL)`, the register otherwise
(48_decode_ddfd.md R336 to R346). -/
def indexedOrRegister (ir : IndexReg) (d : Byte) (z : Fin 8) : Text := if z = 6 then indexed ir d else register8 z

/-- The second operand of `ADD I,rp`: the index register in the place of `HL` (48_decode_ddfd.md R311). -/
def pairOrIndex (ir : IndexReg) (p : Fin 4) : Text := if p = 2 then indexName ir else registerPair16 p

/-- The restart address `Y * 8` (45_decode_unprefixed_x3.md R240). -/
def restartAddress (y : Fin 8) : Byte := BitVec.ofNat 8 (8 * y.val)

/-! ## The shared meaning of a decode -/

/-- Read `reads` bytes at the cursor, return the text and the length, and advance the cursor by the length
(49_disassembler.md R361, R366; 30_encoding.md R85). Nothing the text says is performed (00_scope.md R5). -/
def present (pfx : PrefixClass) (opcode : Byte) (text : Text) (len reads : Nat) (s : State) : Result :=
  andThen (readBytes reads s.pc s) fun got =>
    .next { got.2 with
      pc := s.pc + BitVec.ofNat 16 len
      returned := some (.decoded
        { pfx := pfx, tuple := fields opcode, text := text, len := len, newAddress := s.pc + BitVec.ofNat 16 len }) }

/-- An unprefixed form (formats F1, F2n, F2d, F3 of 30_encoding.md R76). -/
def presentUnprefixed (opcode : Byte) (text : Text) (len : Nat) (s : State) : Result :=
  present .unprefixed opcode text len len s

/-- A `CB` form: length 2 (format FCB; 46_decode_cb.md). -/
def presentCb (opcode : Byte) (text : Text) (s : State) : Result := present .cb opcode text 2 2 s

/-- An `ED` form (formats FED, FED4; 47_decode_ed.md). -/
def presentEd (opcode : Byte) (text : Text) (len : Nat) (s : State) : Result := present .ed opcode text len len s

/-- A `DD` or `FD` form (formats FX2 to FXCB; 48_decode_ddfd.md). -/
def presentIndex (ir : IndexReg) (opcode : Byte) (text : Text) (len : Nat) (s : State) : Result :=
  present (.ddfd ir) opcode text len len s

/-- A lone prefix: `NOP`, length 1, two reads; the tuple is that of the byte looked at
(format FX1; 48_decode_ddfd.md R310). -/
def presentLonePrefix (ir : IndexReg) (looked : Byte) (text : Text) (s : State) : Result :=
  present (.ddfd ir) looked text 1 2 s

end Sys2Proof.Machine
end

