-- ==== Sys2Proof/Machine/Flags.lean ====
section
/-! DEFINITION. The block has no flags, condition codes or predicates of its own (10_state.md R37): the one thing it knows
of flags is the texts of the Z80's flag tests. -/

namespace Sys2Proof.Machine

/-- `condition[8]`: the names of the flag tests; the block evaluates none of them (42_tables_and_bitfields.md R135). -/
def condition : Fin 8 → Text
  | 0 => txt "NZ"
  | 1 => txt "Z"
  | 2 => txt "NC"
  | 3 => txt "C"
  | 4 => txt "PO"
  | 5 => txt "PE"
  | 6 => txt "P"
  | 7 => txt "M"

end Sys2Proof.Machine
end

