-- ==== Sys2Proof/Machine/PassThrough.lean ====
section
/-! DEFINITION. The meanings of the DD and FD forms that pass through: the unprefixed text, length one more (48_decode_ddfd.md R335): each
reads the form's bytes, returns its text and length, and performs nothing (49_disassembler.md R361, R366). -/

namespace Sys2Proof.Machine

/-- R335: NOP, passed through (the text of R150). -/
def execPassNop (ir : IndexReg) (s : State) : Result := presentIndex ir (op 0 0 0) (txt "NOP") 2 s

/-- R335: EX AF,AF', passed through (the text of R151). -/
def execPassExAfAf (ir : IndexReg) (s : State) : Result := presentIndex ir (op 0 1 0) (txt "EX AF,AF'") 2 s

/-- R335: DJNZ d, passed through (the text of R152). -/
def execPassDjnz (ir : IndexReg) (d : Byte) (s : State) : Result :=
  presentIndex ir (op 0 2 0) (txt "DJNZ " ++ hex2 d) 3 s

/-- R335: JR d, passed through (the text of R153). -/
def execPassJr (ir : IndexReg) (d : Byte) (s : State) : Result := presentIndex ir (op 0 3 0) (txt "JR " ++ hex2 d) 3 s

/-- R335: JR cc,d, passed through (the text of R154). -/
def execPassJrCc (ir : IndexReg) (y : Fin 8) (d : Byte) (s : State) : Result :=
  presentIndex ir (op 0 y 0) (txt "JR " ++ condition (y - 4) ++ txt "," ++ hex2 d) 3 s

/-- R335: LD rp,nn, passed through (the text of R155). -/
def execPassLdRpNn (ir : IndexReg) (p : Fin 4) (nn : Word) (s : State) : Result :=
  presentIndex ir (op 0 (ofPQ p 0) 1) (txt "LD " ++ registerPair16 p ++ txt "," ++ hex4 nn) 4 s

/-- R335: LD (BC),A, passed through (the text of R157). -/
def execPassLdBcA (ir : IndexReg) (s : State) : Result := presentIndex ir (op 0 0 2) (indirectStore 0) 2 s

/-- R335: LD (DE),A, passed through (the text of R158). -/
def execPassLdDeA (ir : IndexReg) (s : State) : Result := presentIndex ir (op 0 2 2) (indirectStore 1) 2 s

/-- R335: LD (nn),A, passed through (the text of R160). -/
def execPassLdNnA (ir : IndexReg) (nn : Word) (s : State) : Result :=
  presentIndex ir (op 0 6 2) (fillNn nn (indirectStore 3)) 4 s

/-- R335: LD A,(BC), passed through (the text of R161). -/
def execPassLdABc (ir : IndexReg) (s : State) : Result := presentIndex ir (op 0 1 2) (indirectLoad 0) 2 s

/-- R335: LD A,(DE), passed through (the text of R162). -/
def execPassLdADe (ir : IndexReg) (s : State) : Result := presentIndex ir (op 0 3 2) (indirectLoad 1) 2 s

/-- R335: LD A,(nn), passed through (the text of R164). -/
def execPassLdANni (ir : IndexReg) (nn : Word) (s : State) : Result :=
  presentIndex ir (op 0 7 2) (fillNn nn (indirectLoad 3)) 4 s

/-- R335: INC rp, passed through (the text of R165). -/
def execPassIncRp (ir : IndexReg) (p : Fin 4) (s : State) : Result :=
  presentIndex ir (op 0 (ofPQ p 0) 3) (txt "INC " ++ registerPair16 p) 2 s

/-- R335: DEC rp, passed through (the text of R166). -/
def execPassDecRp (ir : IndexReg) (p : Fin 4) (s : State) : Result :=
  presentIndex ir (op 0 (ofPQ p 1) 3) (txt "DEC " ++ registerPair16 p) 2 s

/-- R335: INC r, passed through (the text of R167). -/
def execPassIncR (ir : IndexReg) (y : Fin 8) (s : State) : Result :=
  presentIndex ir (op 0 y 4) (txt "INC " ++ register8 y) 2 s

/-- R335: DEC r, passed through (the text of R169). -/
def execPassDecR (ir : IndexReg) (y : Fin 8) (s : State) : Result :=
  presentIndex ir (op 0 y 5) (txt "DEC " ++ register8 y) 2 s

/-- R335: LD r,n, passed through (the text of R171). -/
def execPassLdRN (ir : IndexReg) (y : Fin 8) (n : Byte) (s : State) : Result :=
  presentIndex ir (op 0 y 6) (txt "LD " ++ register8 y ++ txt "," ++ hex2 n) 3 s

/-- R335: RLCA, passed through (the text of R173). -/
def execPassRlca (ir : IndexReg) (s : State) : Result := presentIndex ir (op 0 0 7) (accumulatorFlagOp 0) 2 s

/-- R335: RRCA, passed through (the text of R174). -/
def execPassRrca (ir : IndexReg) (s : State) : Result := presentIndex ir (op 0 1 7) (accumulatorFlagOp 1) 2 s

/-- R335: RLA, passed through (the text of R175). -/
def execPassRla (ir : IndexReg) (s : State) : Result := presentIndex ir (op 0 2 7) (accumulatorFlagOp 2) 2 s

/-- R335: RRA, passed through (the text of R176). -/
def execPassRra (ir : IndexReg) (s : State) : Result := presentIndex ir (op 0 3 7) (accumulatorFlagOp 3) 2 s

/-- R335: DAA, passed through (the text of R177). -/
def execPassDaa (ir : IndexReg) (s : State) : Result := presentIndex ir (op 0 4 7) (accumulatorFlagOp 4) 2 s

/-- R335: CPL, passed through (the text of R178). -/
def execPassCpl (ir : IndexReg) (s : State) : Result := presentIndex ir (op 0 5 7) (accumulatorFlagOp 5) 2 s

/-- R335: SCF, passed through (the text of R179). -/
def execPassScf (ir : IndexReg) (s : State) : Result := presentIndex ir (op 0 6 7) (accumulatorFlagOp 6) 2 s

/-- R335: CCF, passed through (the text of R180). -/
def execPassCcf (ir : IndexReg) (s : State) : Result := presentIndex ir (op 0 7 7) (accumulatorFlagOp 7) 2 s

/-- R335: LD r,r', passed through (the text of R190). -/
def execPassLdRR (ir : IndexReg) (y : Fin 8) (z : Fin 8) (s : State) : Result :=
  presentIndex ir (op 1 y z) (txt "LD " ++ register8 y ++ txt "," ++ register8 z) 2 s

/-- R335: HALT, passed through (the text of R193). -/
def execPassHalt (ir : IndexReg) (s : State) : Result := presentIndex ir (op 1 6 6) (txt "HALT") 2 s

/-- R335: ADD A,r, passed through (the text of R194). -/
def execPassAddR (ir : IndexReg) (z : Fin 8) (s : State) : Result :=
  presentIndex ir (op 2 0 z) (aluOp 0 ++ register8 z) 2 s

/-- R335: ADC A,r, passed through (the text of R196). -/
def execPassAdcR (ir : IndexReg) (z : Fin 8) (s : State) : Result :=
  presentIndex ir (op 2 1 z) (aluOp 1 ++ register8 z) 2 s

/-- R335: SUB r, passed through (the text of R198). -/
def execPassSubR (ir : IndexReg) (z : Fin 8) (s : State) : Result :=
  presentIndex ir (op 2 2 z) (aluOp 2 ++ register8 z) 2 s

/-- R335: SBC A,r, passed through (the text of R200). -/
def execPassSbcR (ir : IndexReg) (z : Fin 8) (s : State) : Result :=
  presentIndex ir (op 2 3 z) (aluOp 3 ++ register8 z) 2 s

/-- R335: AND r, passed through (the text of R202). -/
def execPassAndR (ir : IndexReg) (z : Fin 8) (s : State) : Result :=
  presentIndex ir (op 2 4 z) (aluOp 4 ++ register8 z) 2 s

/-- R335: XOR r, passed through (the text of R204). -/
def execPassXorR (ir : IndexReg) (z : Fin 8) (s : State) : Result :=
  presentIndex ir (op 2 5 z) (aluOp 5 ++ register8 z) 2 s

/-- R335: OR r, passed through (the text of R206). -/
def execPassOrR (ir : IndexReg) (z : Fin 8) (s : State) : Result :=
  presentIndex ir (op 2 6 z) (aluOp 6 ++ register8 z) 2 s

/-- R335: CP r, passed through (the text of R208). -/
def execPassCpR (ir : IndexReg) (z : Fin 8) (s : State) : Result :=
  presentIndex ir (op 2 7 z) (aluOp 7 ++ register8 z) 2 s

/-- R335: RET cc, passed through (the text of R215). -/
def execPassRetCc (ir : IndexReg) (y : Fin 8) (s : State) : Result :=
  presentIndex ir (op 3 y 0) (txt "RET " ++ condition y) 2 s

/-- R335: POP rp2, passed through (the text of R216). -/
def execPassPopRp2 (ir : IndexReg) (p : Fin 4) (s : State) : Result :=
  presentIndex ir (op 3 (ofPQ p 0) 1) (txt "POP " ++ registerPair16Alt p) 2 s

/-- R335: RET, passed through (the text of R217). -/
def execPassRet (ir : IndexReg) (s : State) : Result := presentIndex ir (op 3 1 1) (txt "RET") 2 s

/-- R335: EXX, passed through (the text of R218). -/
def execPassExx (ir : IndexReg) (s : State) : Result := presentIndex ir (op 3 3 1) (txt "EXX") 2 s

/-- R335: JP cc,nn, passed through (the text of R221). -/
def execPassJpCcNn (ir : IndexReg) (y : Fin 8) (nn : Word) (s : State) : Result :=
  presentIndex ir (op 3 y 2) (txt "JP " ++ condition y ++ txt "," ++ hex4 nn) 4 s

/-- R335: JP nn, passed through (the text of R222). -/
def execPassJpNn (ir : IndexReg) (nn : Word) (s : State) : Result :=
  presentIndex ir (op 3 0 3) (txt "JP " ++ hex4 nn) 4 s

/-- R335: OUT (n),A, passed through (the text of R223). -/
def execPassOutNA (ir : IndexReg) (n : Byte) (s : State) : Result :=
  presentIndex ir (op 3 2 3) (txt "OUT (" ++ hex2 n ++ txt "),A") 3 s

/-- R335: IN A,(n), passed through (the text of R224). -/
def execPassInAN (ir : IndexReg) (n : Byte) (s : State) : Result :=
  presentIndex ir (op 3 3 3) (txt "IN A,(" ++ hex2 n ++ txt ")") 3 s

/-- R335: EX DE,HL, passed through (the text of R226). -/
def execPassExDeHl (ir : IndexReg) (s : State) : Result := presentIndex ir (op 3 5 3) (txt "EX DE,HL") 2 s

/-- R335: DI, passed through (the text of R227). -/
def execPassDi (ir : IndexReg) (s : State) : Result := presentIndex ir (op 3 6 3) (txt "DI") 2 s

/-- R335: EI, passed through (the text of R228). -/
def execPassEi (ir : IndexReg) (s : State) : Result := presentIndex ir (op 3 7 3) (txt "EI") 2 s

/-- R335: CALL cc,nn, passed through (the text of R229). -/
def execPassCallCcNn (ir : IndexReg) (y : Fin 8) (nn : Word) (s : State) : Result :=
  presentIndex ir (op 3 y 4) (txt "CALL " ++ condition y ++ txt "," ++ hex4 nn) 4 s

/-- R335: PUSH rp2, passed through (the text of R230). -/
def execPassPushRp2 (ir : IndexReg) (p : Fin 4) (s : State) : Result :=
  presentIndex ir (op 3 (ofPQ p 0) 5) (txt "PUSH " ++ registerPair16Alt p) 2 s

/-- R335: CALL nn, passed through (the text of R231). -/
def execPassCallNn (ir : IndexReg) (nn : Word) (s : State) : Result :=
  presentIndex ir (op 3 1 5) (txt "CALL " ++ hex4 nn) 4 s

/-- R335: ADD A,n, passed through (the text of R232). -/
def execPassAddN (ir : IndexReg) (n : Byte) (s : State) : Result := presentIndex ir (op 3 0 6) (aluOp 0 ++ hex2 n) 3 s

/-- R335: ADC A,n, passed through (the text of R233). -/
def execPassAdcN (ir : IndexReg) (n : Byte) (s : State) : Result := presentIndex ir (op 3 1 6) (aluOp 1 ++ hex2 n) 3 s

/-- R335: SUB n, passed through (the text of R234). -/
def execPassSubN (ir : IndexReg) (n : Byte) (s : State) : Result := presentIndex ir (op 3 2 6) (aluOp 2 ++ hex2 n) 3 s

/-- R335: SBC A,n, passed through (the text of R235). -/
def execPassSbcN (ir : IndexReg) (n : Byte) (s : State) : Result := presentIndex ir (op 3 3 6) (aluOp 3 ++ hex2 n) 3 s

/-- R335: AND n, passed through (the text of R236). -/
def execPassAndN (ir : IndexReg) (n : Byte) (s : State) : Result := presentIndex ir (op 3 4 6) (aluOp 4 ++ hex2 n) 3 s

/-- R335: XOR n, passed through (the text of R237). -/
def execPassXorN (ir : IndexReg) (n : Byte) (s : State) : Result := presentIndex ir (op 3 5 6) (aluOp 5 ++ hex2 n) 3 s

/-- R335: OR n, passed through (the text of R238). -/
def execPassOrN (ir : IndexReg) (n : Byte) (s : State) : Result := presentIndex ir (op 3 6 6) (aluOp 6 ++ hex2 n) 3 s

/-- R335: CP n, passed through (the text of R239). -/
def execPassCpN (ir : IndexReg) (n : Byte) (s : State) : Result := presentIndex ir (op 3 7 6) (aluOp 7 ++ hex2 n) 3 s

/-- R335: RST p, passed through (the text of R240). -/
def execPassRst (ir : IndexReg) (y : Fin 8) (s : State) : Result :=
  presentIndex ir (op 3 y 7) (txt "RST " ++ hex2 (restartAddress y)) 2 s

end Sys2Proof.Machine
end

