-- ==== Sys2Proof/Machine/PrefixedCb.lean ====
section
/-! DEFINITION. The meanings of the CB forms (46_decode_cb.md R250 to R260): each
reads the form's bytes, returns its text and length, and performs nothing (49_disassembler.md R361, R366). -/

namespace Sys2Proof.Machine

/-- R250: RLC m. -/
def execCbRlc (z : Fin 8) (s : State) : Result := presentCb (op 0 0 z) (rotateOp 0 ++ txt " " ++ register8 z) s

/-- R251: RRC m. -/
def execCbRrc (z : Fin 8) (s : State) : Result := presentCb (op 0 1 z) (rotateOp 1 ++ txt " " ++ register8 z) s

/-- R252: RL m. -/
def execCbRl (z : Fin 8) (s : State) : Result := presentCb (op 0 2 z) (rotateOp 2 ++ txt " " ++ register8 z) s

/-- R253: RR m. -/
def execCbRr (z : Fin 8) (s : State) : Result := presentCb (op 0 3 z) (rotateOp 3 ++ txt " " ++ register8 z) s

/-- R254: SLA m. -/
def execCbSla (z : Fin 8) (s : State) : Result := presentCb (op 0 4 z) (rotateOp 4 ++ txt " " ++ register8 z) s

/-- R255: SRA m. -/
def execCbSra (z : Fin 8) (s : State) : Result := presentCb (op 0 5 z) (rotateOp 5 ++ txt " " ++ register8 z) s

/-- R256: SLL m. -/
def execCbSll (z : Fin 8) (s : State) : Result := presentCb (op 0 6 z) (rotateOp 6 ++ txt " " ++ register8 z) s

/-- R257: SRL m. -/
def execCbSrl (z : Fin 8) (s : State) : Result := presentCb (op 0 7 z) (rotateOp 7 ++ txt " " ++ register8 z) s

/-- R258: BIT b,m. -/
def execCbBit (y : Fin 8) (z : Fin 8) (s : State) : Result :=
  presentCb (op 1 y z) (bitOp 0 ++ txt " " ++ dec1 y ++ txt "," ++ register8 z) s

/-- R259: RES b,m. -/
def execCbRes (y : Fin 8) (z : Fin 8) (s : State) : Result :=
  presentCb (op 2 y z) (bitOp 1 ++ txt " " ++ dec1 y ++ txt "," ++ register8 z) s

/-- R260: SET b,m. -/
def execCbSet (y : Fin 8) (z : Fin 8) (s : State) : Result :=
  presentCb (op 3 y z) (bitOp 2 ++ txt " " ++ dec1 y ++ txt "," ++ register8 z) s

end Sys2Proof.Machine
end

