-- ==== Sys2Proof/Machine/PrefixedDdFd.lean ====
section
/-! DEFINITION. The meanings of the lone prefix and the DD and FD forms that involve HL or (HL) (48_decode_ddfd.md R310 to R334): each
reads the form's bytes, returns its text and length, and performs nothing (49_disassembler.md R361, R366). -/

namespace Sys2Proof.Machine

/-- R310: NOP, a lone DD or FD prefix before DD or FD. -/
def execLoneDdFd (ir : IndexReg) (jr : IndexReg) (s : State) : Result :=
  presentLonePrefix ir (prefixByte jr) (txt "NOP") s

/-- R310: NOP, a lone DD or FD prefix before ED. -/
def execLoneEd (ir : IndexReg) (s : State) : Result := presentLonePrefix ir 0xED (txt "NOP") s

/-- R311: ADD I,rp. -/
def execAddIRp (ir : IndexReg) (p : Fin 4) (s : State) : Result :=
  presentIndex ir (op 0 (ofPQ p 1) 1) (txt "ADD " ++ indexName ir ++ txt "," ++ pairOrIndex ir p) 2 s

/-- R312: LD I,nn. -/
def execLdINn (ir : IndexReg) (nn : Word) (s : State) : Result :=
  presentIndex ir (op 0 4 1) (txt "LD " ++ indexName ir ++ txt "," ++ hex4 nn) 4 s

/-- R313: LD (nn),I. -/
def execLdNnI (ir : IndexReg) (nn : Word) (s : State) : Result :=
  presentIndex ir (op 0 4 2) (txt "LD (" ++ hex4 nn ++ txt ")," ++ indexName ir) 4 s

/-- R314: INC I. -/
def execIncI (ir : IndexReg) (s : State) : Result := presentIndex ir (op 0 4 3) (txt "INC " ++ indexName ir) 2 s

/-- R315: LD I,(nn). -/
def execLdINni (ir : IndexReg) (nn : Word) (s : State) : Result :=
  presentIndex ir (op 0 5 2) (txt "LD " ++ indexName ir ++ txt ",(" ++ hex4 nn ++ txt ")") 4 s

/-- R316: DEC I. -/
def execDecI (ir : IndexReg) (s : State) : Result := presentIndex ir (op 0 5 3) (txt "DEC " ++ indexName ir) 2 s

/-- R317: INC (I+d). -/
def execIncID (ir : IndexReg) (d : Byte) (s : State) : Result :=
  presentIndex ir (op 0 6 4) (txt "INC " ++ indexed ir d) 3 s

/-- R318: DEC (I+d). -/
def execDecID (ir : IndexReg) (d : Byte) (s : State) : Result :=
  presentIndex ir (op 0 6 5) (txt "DEC " ++ indexed ir d) 3 s

/-- R319: LD (I+d),n. -/
def execLdIDN (ir : IndexReg) (d : Byte) (n : Byte) (s : State) : Result :=
  presentIndex ir (op 0 6 6) (txt "LD " ++ indexed ir d ++ txt "," ++ hex2 n) 4 s

/-- R320: LD r,(I+d). -/
def execLdRID (ir : IndexReg) (y : Fin 8) (d : Byte) (s : State) : Result :=
  presentIndex ir (op 1 y 6) (txt "LD " ++ register8 y ++ txt "," ++ indexed ir d) 3 s

/-- R321: LD (I+d),r. -/
def execLdIDR (ir : IndexReg) (d : Byte) (z : Fin 8) (s : State) : Result :=
  presentIndex ir (op 1 6 z) (txt "LD " ++ indexed ir d ++ txt "," ++ register8 z) 3 s

/-- R322: ADD A,(I+d). -/
def execAddID (ir : IndexReg) (d : Byte) (s : State) : Result :=
  presentIndex ir (op 2 0 6) (aluOp 0 ++ indexed ir d) 3 s

/-- R323: ADC A,(I+d). -/
def execAdcID (ir : IndexReg) (d : Byte) (s : State) : Result :=
  presentIndex ir (op 2 1 6) (aluOp 1 ++ indexed ir d) 3 s

/-- R324: SUB (I+d). -/
def execSubID (ir : IndexReg) (d : Byte) (s : State) : Result :=
  presentIndex ir (op 2 2 6) (aluOp 2 ++ indexed ir d) 3 s

/-- R325: SBC A,(I+d). -/
def execSbcID (ir : IndexReg) (d : Byte) (s : State) : Result :=
  presentIndex ir (op 2 3 6) (aluOp 3 ++ indexed ir d) 3 s

/-- R326: AND (I+d). -/
def execAndID (ir : IndexReg) (d : Byte) (s : State) : Result :=
  presentIndex ir (op 2 4 6) (aluOp 4 ++ indexed ir d) 3 s

/-- R327: XOR (I+d). -/
def execXorID (ir : IndexReg) (d : Byte) (s : State) : Result :=
  presentIndex ir (op 2 5 6) (aluOp 5 ++ indexed ir d) 3 s

/-- R328: OR (I+d). -/
def execOrID (ir : IndexReg) (d : Byte) (s : State) : Result :=
  presentIndex ir (op 2 6 6) (aluOp 6 ++ indexed ir d) 3 s

/-- R329: CP (I+d). -/
def execCpID (ir : IndexReg) (d : Byte) (s : State) : Result :=
  presentIndex ir (op 2 7 6) (aluOp 7 ++ indexed ir d) 3 s

/-- R330: POP I. -/
def execPopI (ir : IndexReg) (s : State) : Result := presentIndex ir (op 3 4 1) (txt "POP " ++ indexName ir) 2 s

/-- R331: EX (SP),I. -/
def execExSpI (ir : IndexReg) (s : State) : Result := presentIndex ir (op 3 4 3) (txt "EX (SP)," ++ indexName ir) 2 s

/-- R332: PUSH I. -/
def execPushI (ir : IndexReg) (s : State) : Result := presentIndex ir (op 3 4 5) (txt "PUSH " ++ indexName ir) 2 s

/-- R333: JP (I). -/
def execJpI (ir : IndexReg) (s : State) : Result :=
  presentIndex ir (op 3 5 1) (txt "JP (" ++ indexName ir ++ txt ")") 2 s

/-- R334: LD SP,I. -/
def execLdSpI (ir : IndexReg) (s : State) : Result := presentIndex ir (op 3 7 1) (txt "LD SP," ++ indexName ir) 2 s

end Sys2Proof.Machine
end

