-- ==== Sys2Proof/Machine/PrefixedEd.lean ====
section
/-! DEFINITION. The meanings of the ED forms (47_decode_ed.md R265 to R302): each
reads the form's bytes, returns its text and length, and performs nothing (49_disassembler.md R361, R366). -/

namespace Sys2Proof.Machine

/-- R265: IN r,(C). -/
def execInRC (y : Fin 8) (s : State) : Result := presentEd (op 1 y 0) (txt "IN " ++ register8 y ++ txt ",(C)") 2 s

/-- R266: IN (C). -/
def execInC (s : State) : Result := presentEd (op 1 6 0) (txt "IN (C)") 2 s

/-- R267: OUT (C),r. -/
def execOutCR (y : Fin 8) (s : State) : Result := presentEd (op 1 y 1) (txt "OUT (C)," ++ register8 y) 2 s

/-- R268: OUT (C),0. -/
def execOutC0 (s : State) : Result := presentEd (op 1 6 1) (txt "OUT (C),0") 2 s

/-- R269: SBC HL,rp. -/
def execSbcHlRp (p : Fin 4) (s : State) : Result :=
  presentEd (op 1 (ofPQ p 0) 2) (txt "SBC HL," ++ registerPair16 p) 2 s

/-- R270: ADC HL,rp. -/
def execAdcHlRp (p : Fin 4) (s : State) : Result :=
  presentEd (op 1 (ofPQ p 1) 2) (txt "ADC HL," ++ registerPair16 p) 2 s

/-- R271: LD (nn),rp. -/
def execLdNnRp (p : Fin 4) (nn : Word) (s : State) : Result :=
  presentEd (op 1 (ofPQ p 0) 3) (txt "LD (" ++ hex4 nn ++ txt ")," ++ registerPair16 p) 4 s

/-- R272: LD rp,(nn). -/
def execLdRpNni (p : Fin 4) (nn : Word) (s : State) : Result :=
  presentEd (op 1 (ofPQ p 1) 3) (txt "LD " ++ registerPair16 p ++ txt ",(" ++ hex4 nn ++ txt ")") 4 s

/-- R273: NEG, the field Y ignored. -/
def execNeg (y : Fin 8) (s : State) : Result := presentEd (op 1 y 4) (txt "NEG") 2 s

/-- R274: RETN, the field Y (not 1) ignored. -/
def execRetn (y : Fin 8) (s : State) : Result := presentEd (op 1 y 5) (txt "RETN") 2 s

/-- R275: RETI. -/
def execReti (s : State) : Result := presentEd (op 1 1 5) (txt "RETI") 2 s

/-- R276: IM m. -/
def execIm (y : Fin 8) (s : State) : Result := presentEd (op 1 y 6) (txt "IM " ++ interruptMode (modeIndex y)) 2 s

/-- R277: LD I,A. -/
def execLdIA (s : State) : Result := presentEd (op 1 0 7) (txt "LD I,A") 2 s

/-- R278: LD R,A. -/
def execLdRA (s : State) : Result := presentEd (op 1 1 7) (txt "LD R,A") 2 s

/-- R279: LD A,I. -/
def execLdAI (s : State) : Result := presentEd (op 1 2 7) (txt "LD A,I") 2 s

/-- R280: LD A,R. -/
def execLdAR (s : State) : Result := presentEd (op 1 3 7) (txt "LD A,R") 2 s

/-- R281: RRD. -/
def execRrd (s : State) : Result := presentEd (op 1 4 7) (txt "RRD") 2 s

/-- R282: RLD. -/
def execRld (s : State) : Result := presentEd (op 1 5 7) (txt "RLD") 2 s

/-- R283: NOP fallback of ED, X = 1, Z = 7, Y >= 6. -/
def execEdNopX1 (y : Fin 8) (s : State) : Result := presentEd (op 1 y 7) (txt "NOP") 2 s

/-- R284: LDI. -/
def execLdi (s : State) : Result := presentEd (op 2 4 0) (blockOp 0 0) 2 s

/-- R285: CPI. -/
def execCpi (s : State) : Result := presentEd (op 2 4 1) (blockOp 0 1) 2 s

/-- R286: INI. -/
def execIni (s : State) : Result := presentEd (op 2 4 2) (blockOp 0 2) 2 s

/-- R287: OUTI. -/
def execOuti (s : State) : Result := presentEd (op 2 4 3) (blockOp 0 3) 2 s

/-- R288: LDD. -/
def execLdd (s : State) : Result := presentEd (op 2 5 0) (blockOp 1 0) 2 s

/-- R289: CPD. -/
def execCpd (s : State) : Result := presentEd (op 2 5 1) (blockOp 1 1) 2 s

/-- R290: IND. -/
def execInd (s : State) : Result := presentEd (op 2 5 2) (blockOp 1 2) 2 s

/-- R291: OUTD. -/
def execOutd (s : State) : Result := presentEd (op 2 5 3) (blockOp 1 3) 2 s

/-- R292: LDIR. -/
def execLdir (s : State) : Result := presentEd (op 2 6 0) (blockOp 2 0) 2 s

/-- R293: CPIR. -/
def execCpir (s : State) : Result := presentEd (op 2 6 1) (blockOp 2 1) 2 s

/-- R294: INIR. -/
def execInir (s : State) : Result := presentEd (op 2 6 2) (blockOp 2 2) 2 s

/-- R295: OTIR. -/
def execOtir (s : State) : Result := presentEd (op 2 6 3) (blockOp 2 3) 2 s

/-- R296: LDDR. -/
def execLddr (s : State) : Result := presentEd (op 2 7 0) (blockOp 3 0) 2 s

/-- R297: CPDR. -/
def execCpdr (s : State) : Result := presentEd (op 2 7 1) (blockOp 3 1) 2 s

/-- R298: INDR. -/
def execIndr (s : State) : Result := presentEd (op 2 7 2) (blockOp 3 2) 2 s

/-- R299: OTDR. -/
def execOtdr (s : State) : Result := presentEd (op 2 7 3) (blockOp 3 3) 2 s

/-- R300: NOP fallback of ED, X = 2, outside the block cells. -/
def execEdNopX2 (y : Fin 8) (z : Fin 8) (s : State) : Result := presentEd (op 2 y z) (txt "NOP") 2 s

/-- R301: NOP fallback of ED, X = 0. -/
def execEdNopX0 (y : Fin 8) (z : Fin 8) (s : State) : Result := presentEd (op 0 y z) (txt "NOP") 2 s

/-- R302: NOP fallback of ED, X = 3. -/
def execEdNopX3 (y : Fin 8) (z : Fin 8) (s : State) : Result := presentEd (op 3 y z) (txt "NOP") 2 s

end Sys2Proof.Machine
end

