-- ==== Sys2Proof/Machine/PrefixedIndexCb.lean ====
section
/-! DEFINITION. The meanings of the DD CB and FD CB forms (48_decode_ddfd.md R336 to R346): each
reads the form's bytes, returns its text and length, and performs nothing (49_disassembler.md R361, R366). -/

namespace Sys2Proof.Machine

/-- R336: RLC (I+d). -/
def execXcbRlc (ir : IndexReg) (d : Byte) (z : Fin 8) (s : State) : Result :=
  presentIndex ir (op 0 0 z) (rotateOp 0 ++ txt " " ++ indexedOrRegister ir d z) 4 s

/-- R337: RRC (I+d). -/
def execXcbRrc (ir : IndexReg) (d : Byte) (z : Fin 8) (s : State) : Result :=
  presentIndex ir (op 0 1 z) (rotateOp 1 ++ txt " " ++ indexedOrRegister ir d z) 4 s

/-- R338: RL (I+d). -/
def execXcbRl (ir : IndexReg) (d : Byte) (z : Fin 8) (s : State) : Result :=
  presentIndex ir (op 0 2 z) (rotateOp 2 ++ txt " " ++ indexedOrRegister ir d z) 4 s

/-- R339: RR (I+d). -/
def execXcbRr (ir : IndexReg) (d : Byte) (z : Fin 8) (s : State) : Result :=
  presentIndex ir (op 0 3 z) (rotateOp 3 ++ txt " " ++ indexedOrRegister ir d z) 4 s

/-- R340: SLA (I+d). -/
def execXcbSla (ir : IndexReg) (d : Byte) (z : Fin 8) (s : State) : Result :=
  presentIndex ir (op 0 4 z) (rotateOp 4 ++ txt " " ++ indexedOrRegister ir d z) 4 s

/-- R341: SRA (I+d). -/
def execXcbSra (ir : IndexReg) (d : Byte) (z : Fin 8) (s : State) : Result :=
  presentIndex ir (op 0 5 z) (rotateOp 5 ++ txt " " ++ indexedOrRegister ir d z) 4 s

/-- R342: SLL (I+d). -/
def execXcbSll (ir : IndexReg) (d : Byte) (z : Fin 8) (s : State) : Result :=
  presentIndex ir (op 0 6 z) (rotateOp 6 ++ txt " " ++ indexedOrRegister ir d z) 4 s

/-- R343: SRL (I+d). -/
def execXcbSrl (ir : IndexReg) (d : Byte) (z : Fin 8) (s : State) : Result :=
  presentIndex ir (op 0 7 z) (rotateOp 7 ++ txt " " ++ indexedOrRegister ir d z) 4 s

/-- R344: BIT b,(I+d). -/
def execXcbBit (ir : IndexReg) (d : Byte) (y : Fin 8) (z : Fin 8) (s : State) : Result :=
  presentIndex ir (op 1 y z) (bitOp 0 ++ txt " " ++ dec1 y ++ txt "," ++ indexedOrRegister ir d z) 4 s

/-- R345: RES b,(I+d). -/
def execXcbRes (ir : IndexReg) (d : Byte) (y : Fin 8) (z : Fin 8) (s : State) : Result :=
  presentIndex ir (op 2 y z) (bitOp 1 ++ txt " " ++ dec1 y ++ txt "," ++ indexedOrRegister ir d z) 4 s

/-- R346: SET b,(I+d). -/
def execXcbSet (ir : IndexReg) (d : Byte) (y : Fin 8) (z : Fin 8) (s : State) : Result :=
  presentIndex ir (op 3 y z) (bitOp 2 ++ txt " " ++ dec1 y ++ txt "," ++ indexedOrRegister ir d z) 4 s

end Sys2Proof.Machine
end

