-- ==== Sys2Proof/Machine/UnprefixedX0.lean ====
section
/-! DEFINITION. The meanings of the unprefixed forms with X = 0 (43_decode_unprefixed_x0.md R150 to R180): each
reads the form's bytes, returns its text and length, and performs nothing (49_disassembler.md R361, R366). -/

namespace Sys2Proof.Machine

/-- R150: NOP. -/
def execNop (s : State) : Result := presentUnprefixed (op 0 0 0) (txt "NOP") 1 s

/-- R151: EX AF,AF'. -/
def execExAfAf (s : State) : Result := presentUnprefixed (op 0 1 0) (txt "EX AF,AF'") 1 s

/-- R152: DJNZ d. -/
def execDjnz (d : Byte) (s : State) : Result := presentUnprefixed (op 0 2 0) (txt "DJNZ " ++ hex2 d) 2 s

/-- R153: JR d. -/
def execJr (d : Byte) (s : State) : Result := presentUnprefixed (op 0 3 0) (txt "JR " ++ hex2 d) 2 s

/-- R154: JR cc,d. -/
def execJrCc (y : Fin 8) (d : Byte) (s : State) : Result :=
  presentUnprefixed (op 0 y 0) (txt "JR " ++ condition (y - 4) ++ txt "," ++ hex2 d) 2 s

/-- R155: LD rp,nn. -/
def execLdRpNn (p : Fin 4) (nn : Word) (s : State) : Result :=
  presentUnprefixed (op 0 (ofPQ p 0) 1) (txt "LD " ++ registerPair16 p ++ txt "," ++ hex4 nn) 3 s

/-- R156: ADD HL,rp. -/
def execAddHlRp (p : Fin 4) (s : State) : Result :=
  presentUnprefixed (op 0 (ofPQ p 1) 1) (txt "ADD HL," ++ registerPair16 p) 1 s

/-- R157: LD (BC),A. -/
def execLdBcA (s : State) : Result := presentUnprefixed (op 0 0 2) (indirectStore 0) 1 s

/-- R158: LD (DE),A. -/
def execLdDeA (s : State) : Result := presentUnprefixed (op 0 2 2) (indirectStore 1) 1 s

/-- R159: LD (nn),HL. -/
def execLdNnHl (nn : Word) (s : State) : Result := presentUnprefixed (op 0 4 2) (fillNn nn (indirectStore 2)) 3 s

/-- R160: LD (nn),A. -/
def execLdNnA (nn : Word) (s : State) : Result := presentUnprefixed (op 0 6 2) (fillNn nn (indirectStore 3)) 3 s

/-- R161: LD A,(BC). -/
def execLdABc (s : State) : Result := presentUnprefixed (op 0 1 2) (indirectLoad 0) 1 s

/-- R162: LD A,(DE). -/
def execLdADe (s : State) : Result := presentUnprefixed (op 0 3 2) (indirectLoad 1) 1 s

/-- R163: LD HL,(nn). -/
def execLdHlNni (nn : Word) (s : State) : Result := presentUnprefixed (op 0 5 2) (fillNn nn (indirectLoad 2)) 3 s

/-- R164: LD A,(nn). -/
def execLdANni (nn : Word) (s : State) : Result := presentUnprefixed (op 0 7 2) (fillNn nn (indirectLoad 3)) 3 s

/-- R165: INC rp. -/
def execIncRp (p : Fin 4) (s : State) : Result :=
  presentUnprefixed (op 0 (ofPQ p 0) 3) (txt "INC " ++ registerPair16 p) 1 s

/-- R166: DEC rp. -/
def execDecRp (p : Fin 4) (s : State) : Result :=
  presentUnprefixed (op 0 (ofPQ p 1) 3) (txt "DEC " ++ registerPair16 p) 1 s

/-- R167: INC r. -/
def execIncR (y : Fin 8) (s : State) : Result := presentUnprefixed (op 0 y 4) (txt "INC " ++ register8 y) 1 s

/-- R168: INC (HL). -/
def execIncM (s : State) : Result := presentUnprefixed (op 0 6 4) (txt "INC " ++ register8 6) 1 s

/-- R169: DEC r. -/
def execDecR (y : Fin 8) (s : State) : Result := presentUnprefixed (op 0 y 5) (txt "DEC " ++ register8 y) 1 s

/-- R170: DEC (HL). -/
def execDecM (s : State) : Result := presentUnprefixed (op 0 6 5) (txt "DEC " ++ register8 6) 1 s

/-- R171: LD r,n. -/
def execLdRN (y : Fin 8) (n : Byte) (s : State) : Result :=
  presentUnprefixed (op 0 y 6) (txt "LD " ++ register8 y ++ txt "," ++ hex2 n) 2 s

/-- R172: LD (HL),n. -/
def execLdMN (n : Byte) (s : State) : Result := presentUnprefixed (op 0 6 6) (txt "LD (HL)," ++ hex2 n) 2 s

/-- R173: RLCA. -/
def execRlca (s : State) : Result := presentUnprefixed (op 0 0 7) (accumulatorFlagOp 0) 1 s

/-- R174: RRCA. -/
def execRrca (s : State) : Result := presentUnprefixed (op 0 1 7) (accumulatorFlagOp 1) 1 s

/-- R175: RLA. -/
def execRla (s : State) : Result := presentUnprefixed (op 0 2 7) (accumulatorFlagOp 2) 1 s

/-- R176: RRA. -/
def execRra (s : State) : Result := presentUnprefixed (op 0 3 7) (accumulatorFlagOp 3) 1 s

/-- R177: DAA. -/
def execDaa (s : State) : Result := presentUnprefixed (op 0 4 7) (accumulatorFlagOp 4) 1 s

/-- R178: CPL. -/
def execCpl (s : State) : Result := presentUnprefixed (op 0 5 7) (accumulatorFlagOp 5) 1 s

/-- R179: SCF. -/
def execScf (s : State) : Result := presentUnprefixed (op 0 6 7) (accumulatorFlagOp 6) 1 s

/-- R180: CCF. -/
def execCcf (s : State) : Result := presentUnprefixed (op 0 7 7) (accumulatorFlagOp 7) 1 s

end Sys2Proof.Machine
end

