-- ==== Sys2Proof/Machine/UnprefixedX1X2.lean ====
section
/-! DEFINITION. The meanings of the unprefixed forms with X = 1 and X = 2 (44_decode_unprefixed_x1_x2.md R190 to R209): each
reads the form's bytes, returns its text and length, and performs nothing (49_disassembler.md R361, R366). -/

namespace Sys2Proof.Machine

/-- R190: LD r,r'. -/
def execLdRR (y : Fin 8) (z : Fin 8) (s : State) : Result :=
  presentUnprefixed (op 1 y z) (txt "LD " ++ register8 y ++ txt "," ++ register8 z) 1 s

/-- R191: LD r,(HL). -/
def execLdRM (y : Fin 8) (s : State) : Result :=
  presentUnprefixed (op 1 y 6) (txt "LD " ++ register8 y ++ txt ",(HL)") 1 s

/-- R192: LD (HL),r. -/
def execLdMR (z : Fin 8) (s : State) : Result := presentUnprefixed (op 1 6 z) (txt "LD (HL)," ++ register8 z) 1 s

/-- R193: HALT. -/
def execHalt (s : State) : Result := presentUnprefixed (op 1 6 6) (txt "HALT") 1 s

/-- R194: ADD A,r. -/
def execAddR (z : Fin 8) (s : State) : Result := presentUnprefixed (op 2 0 z) (aluOp 0 ++ register8 z) 1 s

/-- R195: ADD A,(HL). -/
def execAddM (s : State) : Result := presentUnprefixed (op 2 0 6) (aluOp 0 ++ register8 6) 1 s

/-- R196: ADC A,r. -/
def execAdcR (z : Fin 8) (s : State) : Result := presentUnprefixed (op 2 1 z) (aluOp 1 ++ register8 z) 1 s

/-- R197: ADC A,(HL). -/
def execAdcM (s : State) : Result := presentUnprefixed (op 2 1 6) (aluOp 1 ++ register8 6) 1 s

/-- R198: SUB r. -/
def execSubR (z : Fin 8) (s : State) : Result := presentUnprefixed (op 2 2 z) (aluOp 2 ++ register8 z) 1 s

/-- R199: SUB (HL). -/
def execSubM (s : State) : Result := presentUnprefixed (op 2 2 6) (aluOp 2 ++ register8 6) 1 s

/-- R200: SBC A,r. -/
def execSbcR (z : Fin 8) (s : State) : Result := presentUnprefixed (op 2 3 z) (aluOp 3 ++ register8 z) 1 s

/-- R201: SBC A,(HL). -/
def execSbcM (s : State) : Result := presentUnprefixed (op 2 3 6) (aluOp 3 ++ register8 6) 1 s

/-- R202: AND r. -/
def execAndR (z : Fin 8) (s : State) : Result := presentUnprefixed (op 2 4 z) (aluOp 4 ++ register8 z) 1 s

/-- R203: AND (HL). -/
def execAndM (s : State) : Result := presentUnprefixed (op 2 4 6) (aluOp 4 ++ register8 6) 1 s

/-- R204: XOR r. -/
def execXorR (z : Fin 8) (s : State) : Result := presentUnprefixed (op 2 5 z) (aluOp 5 ++ register8 z) 1 s

/-- R205: XOR (HL). -/
def execXorM (s : State) : Result := presentUnprefixed (op 2 5 6) (aluOp 5 ++ register8 6) 1 s

/-- R206: OR r. -/
def execOrR (z : Fin 8) (s : State) : Result := presentUnprefixed (op 2 6 z) (aluOp 6 ++ register8 z) 1 s

/-- R207: OR (HL). -/
def execOrM (s : State) : Result := presentUnprefixed (op 2 6 6) (aluOp 6 ++ register8 6) 1 s

/-- R208: CP r. -/
def execCpR (z : Fin 8) (s : State) : Result := presentUnprefixed (op 2 7 z) (aluOp 7 ++ register8 z) 1 s

/-- R209: CP (HL). -/
def execCpM (s : State) : Result := presentUnprefixed (op 2 7 6) (aluOp 7 ++ register8 6) 1 s

end Sys2Proof.Machine
end

