-- ==== Sys2Proof/Machine/UnprefixedX3.lean ====
section
/-! DEFINITION. The meanings of the unprefixed forms with X = 3 (45_decode_unprefixed_x3.md R215 to R240): each
reads the form's bytes, returns its text and length, and performs nothing (49_disassembler.md R361, R366). -/

namespace Sys2Proof.Machine

/-- R215: RET cc. -/
def execRetCc (y : Fin 8) (s : State) : Result := presentUnprefixed (op 3 y 0) (txt "RET " ++ condition y) 1 s

/-- R216: POP rp2. -/
def execPopRp2 (p : Fin 4) (s : State) : Result :=
  presentUnprefixed (op 3 (ofPQ p 0) 1) (txt "POP " ++ registerPair16Alt p) 1 s

/-- R217: RET. -/
def execRet (s : State) : Result := presentUnprefixed (op 3 1 1) (txt "RET") 1 s

/-- R218: EXX. -/
def execExx (s : State) : Result := presentUnprefixed (op 3 3 1) (txt "EXX") 1 s

/-- R219: JP (HL). -/
def execJpHl (s : State) : Result := presentUnprefixed (op 3 5 1) (txt "JP (HL)") 1 s

/-- R220: LD SP,HL. -/
def execLdSpHl (s : State) : Result := presentUnprefixed (op 3 7 1) (txt "LD SP,HL") 1 s

/-- R221: JP cc,nn. -/
def execJpCcNn (y : Fin 8) (nn : Word) (s : State) : Result :=
  presentUnprefixed (op 3 y 2) (txt "JP " ++ condition y ++ txt "," ++ hex4 nn) 3 s

/-- R222: JP nn. -/
def execJpNn (nn : Word) (s : State) : Result := presentUnprefixed (op 3 0 3) (txt "JP " ++ hex4 nn) 3 s

/-- R223: OUT (n),A. -/
def execOutNA (n : Byte) (s : State) : Result := presentUnprefixed (op 3 2 3) (txt "OUT (" ++ hex2 n ++ txt "),A") 2 s

/-- R224: IN A,(n). -/
def execInAN (n : Byte) (s : State) : Result := presentUnprefixed (op 3 3 3) (txt "IN A,(" ++ hex2 n ++ txt ")") 2 s

/-- R225: EX (SP),HL. -/
def execExSpHl (s : State) : Result := presentUnprefixed (op 3 4 3) (txt "EX (SP),HL") 1 s

/-- R226: EX DE,HL. -/
def execExDeHl (s : State) : Result := presentUnprefixed (op 3 5 3) (txt "EX DE,HL") 1 s

/-- R227: DI. -/
def execDi (s : State) : Result := presentUnprefixed (op 3 6 3) (txt "DI") 1 s

/-- R228: EI. -/
def execEi (s : State) : Result := presentUnprefixed (op 3 7 3) (txt "EI") 1 s

/-- R229: CALL cc,nn. -/
def execCallCcNn (y : Fin 8) (nn : Word) (s : State) : Result :=
  presentUnprefixed (op 3 y 4) (txt "CALL " ++ condition y ++ txt "," ++ hex4 nn) 3 s

/-- R230: PUSH rp2. -/
def execPushRp2 (p : Fin 4) (s : State) : Result :=
  presentUnprefixed (op 3 (ofPQ p 0) 5) (txt "PUSH " ++ registerPair16Alt p) 1 s

/-- R231: CALL nn. -/
def execCallNn (nn : Word) (s : State) : Result := presentUnprefixed (op 3 1 5) (txt "CALL " ++ hex4 nn) 3 s

/-- R232: ADD A,n. -/
def execAddN (n : Byte) (s : State) : Result := presentUnprefixed (op 3 0 6) (aluOp 0 ++ hex2 n) 2 s

/-- R233: ADC A,n. -/
def execAdcN (n : Byte) (s : State) : Result := presentUnprefixed (op 3 1 6) (aluOp 1 ++ hex2 n) 2 s

/-- R234: SUB n. -/
def execSubN (n : Byte) (s : State) : Result := presentUnprefixed (op 3 2 6) (aluOp 2 ++ hex2 n) 2 s

/-- R235: SBC A,n. -/
def execSbcN (n : Byte) (s : State) : Result := presentUnprefixed (op 3 3 6) (aluOp 3 ++ hex2 n) 2 s

/-- R236: AND n. -/
def execAndN (n : Byte) (s : State) : Result := presentUnprefixed (op 3 4 6) (aluOp 4 ++ hex2 n) 2 s

/-- R237: XOR n. -/
def execXorN (n : Byte) (s : State) : Result := presentUnprefixed (op 3 5 6) (aluOp 5 ++ hex2 n) 2 s

/-- R238: OR n. -/
def execOrN (n : Byte) (s : State) : Result := presentUnprefixed (op 3 6 6) (aluOp 6 ++ hex2 n) 2 s

/-- R239: CP n. -/
def execCpN (n : Byte) (s : State) : Result := presentUnprefixed (op 3 7 6) (aluOp 7 ++ hex2 n) 2 s

/-- R240: RST p. -/
def execRst (y : Fin 8) (s : State) : Result :=
  presentUnprefixed (op 3 y 7) (txt "RST " ++ hex2 (restartAddress y)) 1 s

end Sys2Proof.Machine
end

