-- ==== Sys2Proof/Machine/Dispatch.lean ====
section
/-! DEFINITION. The meaning of every instruction: one arm per constructor, each one call of the instruction's own
definition. -/

namespace Sys2Proof.Machine

open Sys2Proof

def exec (i : Instr) (s : State) : Host.Outcome State Fault Refusal :=
  match i with
  -- Unprefixed forms (43, 44, 45: R150 to R240)
  | .nop => Sys2Proof.Machine.execNop s
  | .exAfAf => Sys2Proof.Machine.execExAfAf s
  | .djnz d => Sys2Proof.Machine.execDjnz d s
  | .jr d => Sys2Proof.Machine.execJr d s
  | .jrCc y d => Sys2Proof.Machine.execJrCc y d s
  | .ldRpNn p nn => Sys2Proof.Machine.execLdRpNn p nn s
  | .addHlRp p => Sys2Proof.Machine.execAddHlRp p s
  | .ldBcA => Sys2Proof.Machine.execLdBcA s
  | .ldDeA => Sys2Proof.Machine.execLdDeA s
  | .ldNnHl nn => Sys2Proof.Machine.execLdNnHl nn s
  | .ldNnA nn => Sys2Proof.Machine.execLdNnA nn s
  | .ldABc => Sys2Proof.Machine.execLdABc s
  | .ldADe => Sys2Proof.Machine.execLdADe s
  | .ldHlNni nn => Sys2Proof.Machine.execLdHlNni nn s
  | .ldANni nn => Sys2Proof.Machine.execLdANni nn s
  | .incRp p => Sys2Proof.Machine.execIncRp p s
  | .decRp p => Sys2Proof.Machine.execDecRp p s
  | .incR y => Sys2Proof.Machine.execIncR y s
  | .incM => Sys2Proof.Machine.execIncM s
  | .decR y => Sys2Proof.Machine.execDecR y s
  | .decM => Sys2Proof.Machine.execDecM s
  | .ldRN y n => Sys2Proof.Machine.execLdRN y n s
  | .ldMN n => Sys2Proof.Machine.execLdMN n s
  | .rlca => Sys2Proof.Machine.execRlca s
  | .rrca => Sys2Proof.Machine.execRrca s
  | .rla => Sys2Proof.Machine.execRla s
  | .rra => Sys2Proof.Machine.execRra s
  | .daa => Sys2Proof.Machine.execDaa s
  | .cpl => Sys2Proof.Machine.execCpl s
  | .scf => Sys2Proof.Machine.execScf s
  | .ccf => Sys2Proof.Machine.execCcf s
  | .ldRR y z => Sys2Proof.Machine.execLdRR y z s
  | .ldRM y => Sys2Proof.Machine.execLdRM y s
  | .ldMR z => Sys2Proof.Machine.execLdMR z s
  | .halt => Sys2Proof.Machine.execHalt s
  | .addR z => Sys2Proof.Machine.execAddR z s
  | .addM => Sys2Proof.Machine.execAddM s
  | .adcR z => Sys2Proof.Machine.execAdcR z s
  | .adcM => Sys2Proof.Machine.execAdcM s
  | .subR z => Sys2Proof.Machine.execSubR z s
  | .subM => Sys2Proof.Machine.execSubM s
  | .sbcR z => Sys2Proof.Machine.execSbcR z s
  | .sbcM => Sys2Proof.Machine.execSbcM s
  | .andR z => Sys2Proof.Machine.execAndR z s
  | .andM => Sys2Proof.Machine.execAndM s
  | .xorR z => Sys2Proof.Machine.execXorR z s
  | .xorM => Sys2Proof.Machine.execXorM s
  | .orR z => Sys2Proof.Machine.execOrR z s
  | .orM => Sys2Proof.Machine.execOrM s
  | .cpR z => Sys2Proof.Machine.execCpR z s
  | .cpM => Sys2Proof.Machine.execCpM s
  | .retCc y => Sys2Proof.Machine.execRetCc y s
  | .popRp2 p => Sys2Proof.Machine.execPopRp2 p s
  | .ret => Sys2Proof.Machine.execRet s
  | .exx => Sys2Proof.Machine.execExx s
  | .jpHl => Sys2Proof.Machine.execJpHl s
  | .ldSpHl => Sys2Proof.Machine.execLdSpHl s
  | .jpCcNn y nn => Sys2Proof.Machine.execJpCcNn y nn s
  | .jpNn nn => Sys2Proof.Machine.execJpNn nn s
  | .outNA n => Sys2Proof.Machine.execOutNA n s
  | .inAN n => Sys2Proof.Machine.execInAN n s
  | .exSpHl => Sys2Proof.Machine.execExSpHl s
  | .exDeHl => Sys2Proof.Machine.execExDeHl s
  | .di => Sys2Proof.Machine.execDi s
  | .ei => Sys2Proof.Machine.execEi s
  | .callCcNn y nn => Sys2Proof.Machine.execCallCcNn y nn s
  | .pushRp2 p => Sys2Proof.Machine.execPushRp2 p s
  | .callNn nn => Sys2Proof.Machine.execCallNn nn s
  | .addN n => Sys2Proof.Machine.execAddN n s
  | .adcN n => Sys2Proof.Machine.execAdcN n s
  | .subN n => Sys2Proof.Machine.execSubN n s
  | .sbcN n => Sys2Proof.Machine.execSbcN n s
  | .andN n => Sys2Proof.Machine.execAndN n s
  | .xorN n => Sys2Proof.Machine.execXorN n s
  | .orN n => Sys2Proof.Machine.execOrN n s
  | .cpN n => Sys2Proof.Machine.execCpN n s
  | .rst y => Sys2Proof.Machine.execRst y s
  -- CB forms (46: R250 to R260)
  | .cbRlc z => Sys2Proof.Machine.execCbRlc z s
  | .cbRrc z => Sys2Proof.Machine.execCbRrc z s
  | .cbRl z => Sys2Proof.Machine.execCbRl z s
  | .cbRr z => Sys2Proof.Machine.execCbRr z s
  | .cbSla z => Sys2Proof.Machine.execCbSla z s
  | .cbSra z => Sys2Proof.Machine.execCbSra z s
  | .cbSll z => Sys2Proof.Machine.execCbSll z s
  | .cbSrl z => Sys2Proof.Machine.execCbSrl z s
  | .cbBit y z => Sys2Proof.Machine.execCbBit y z s
  | .cbRes y z => Sys2Proof.Machine.execCbRes y z s
  | .cbSet y z => Sys2Proof.Machine.execCbSet y z s
  -- ED forms (47: R265 to R302)
  | .inRC y => Sys2Proof.Machine.execInRC y s
  | .inC => Sys2Proof.Machine.execInC s
  | .outCR y => Sys2Proof.Machine.execOutCR y s
  | .outC0 => Sys2Proof.Machine.execOutC0 s
  | .sbcHlRp p => Sys2Proof.Machine.execSbcHlRp p s
  | .adcHlRp p => Sys2Proof.Machine.execAdcHlRp p s
  | .ldNnRp p nn => Sys2Proof.Machine.execLdNnRp p nn s
  | .ldRpNni p nn => Sys2Proof.Machine.execLdRpNni p nn s
  | .neg y => Sys2Proof.Machine.execNeg y s
  | .retn y => Sys2Proof.Machine.execRetn y s
  | .reti => Sys2Proof.Machine.execReti s
  | .im y => Sys2Proof.Machine.execIm y s
  | .ldIA => Sys2Proof.Machine.execLdIA s
  | .ldRA => Sys2Proof.Machine.execLdRA s
  | .ldAI => Sys2Proof.Machine.execLdAI s
  | .ldAR => Sys2Proof.Machine.execLdAR s
  | .rrd => Sys2Proof.Machine.execRrd s
  | .rld => Sys2Proof.Machine.execRld s
  | .edNopX1 y => Sys2Proof.Machine.execEdNopX1 y s
  | .ldi => Sys2Proof.Machine.execLdi s
  | .cpi => Sys2Proof.Machine.execCpi s
  | .ini => Sys2Proof.Machine.execIni s
  | .outi => Sys2Proof.Machine.execOuti s
  | .ldd => Sys2Proof.Machine.execLdd s
  | .cpd => Sys2Proof.Machine.execCpd s
  | .ind => Sys2Proof.Machine.execInd s
  | .outd => Sys2Proof.Machine.execOutd s
  | .ldir => Sys2Proof.Machine.execLdir s
  | .cpir => Sys2Proof.Machine.execCpir s
  | .inir => Sys2Proof.Machine.execInir s
  | .otir => Sys2Proof.Machine.execOtir s
  | .lddr => Sys2Proof.Machine.execLddr s
  | .cpdr => Sys2Proof.Machine.execCpdr s
  | .indr => Sys2Proof.Machine.execIndr s
  | .otdr => Sys2Proof.Machine.execOtdr s
  | .edNopX2 y z => Sys2Proof.Machine.execEdNopX2 y z s
  | .edNopX0 y z => Sys2Proof.Machine.execEdNopX0 y z s
  | .edNopX3 y z => Sys2Proof.Machine.execEdNopX3 y z s
  -- DD and FD forms that involve HL or (HL), and the lone prefix (48: R310 to R334)
  | .loneDdFd ir jr => Sys2Proof.Machine.execLoneDdFd ir jr s
  | .loneEd ir => Sys2Proof.Machine.execLoneEd ir s
  | .addIRp ir p => Sys2Proof.Machine.execAddIRp ir p s
  | .ldINn ir nn => Sys2Proof.Machine.execLdINn ir nn s
  | .ldNnI ir nn => Sys2Proof.Machine.execLdNnI ir nn s
  | .incI ir => Sys2Proof.Machine.execIncI ir s
  | .ldINni ir nn => Sys2Proof.Machine.execLdINni ir nn s
  | .decI ir => Sys2Proof.Machine.execDecI ir s
  | .incID ir d => Sys2Proof.Machine.execIncID ir d s
  | .decID ir d => Sys2Proof.Machine.execDecID ir d s
  | .ldIDN ir d n => Sys2Proof.Machine.execLdIDN ir d n s
  | .ldRID ir y d => Sys2Proof.Machine.execLdRID ir y d s
  | .ldIDR ir d z => Sys2Proof.Machine.execLdIDR ir d z s
  | .addID ir d => Sys2Proof.Machine.execAddID ir d s
  | .adcID ir d => Sys2Proof.Machine.execAdcID ir d s
  | .subID ir d => Sys2Proof.Machine.execSubID ir d s
  | .sbcID ir d => Sys2Proof.Machine.execSbcID ir d s
  | .andID ir d => Sys2Proof.Machine.execAndID ir d s
  | .xorID ir d => Sys2Proof.Machine.execXorID ir d s
  | .orID ir d => Sys2Proof.Machine.execOrID ir d s
  | .cpID ir d => Sys2Proof.Machine.execCpID ir d s
  | .popI ir => Sys2Proof.Machine.execPopI ir s
  | .exSpI ir => Sys2Proof.Machine.execExSpI ir s
  | .pushI ir => Sys2Proof.Machine.execPushI ir s
  | .jpI ir => Sys2Proof.Machine.execJpI ir s
  | .ldSpI ir => Sys2Proof.Machine.execLdSpI ir s
  -- DD and FD before a byte that involves neither: pass-through (48: R335)
  | .passNop ir => Sys2Proof.Machine.execPassNop ir s
  | .passExAfAf ir => Sys2Proof.Machine.execPassExAfAf ir s
  | .passDjnz ir d => Sys2Proof.Machine.execPassDjnz ir d s
  | .passJr ir d => Sys2Proof.Machine.execPassJr ir d s
  | .passJrCc ir y d => Sys2Proof.Machine.execPassJrCc ir y d s
  | .passLdRpNn ir p nn => Sys2Proof.Machine.execPassLdRpNn ir p nn s
  | .passLdBcA ir => Sys2Proof.Machine.execPassLdBcA ir s
  | .passLdDeA ir => Sys2Proof.Machine.execPassLdDeA ir s
  | .passLdNnA ir nn => Sys2Proof.Machine.execPassLdNnA ir nn s
  | .passLdABc ir => Sys2Proof.Machine.execPassLdABc ir s
  | .passLdADe ir => Sys2Proof.Machine.execPassLdADe ir s
  | .passLdANni ir nn => Sys2Proof.Machine.execPassLdANni ir nn s
  | .passIncRp ir p => Sys2Proof.Machine.execPassIncRp ir p s
  | .passDecRp ir p => Sys2Proof.Machine.execPassDecRp ir p s
  | .passIncR ir y => Sys2Proof.Machine.execPassIncR ir y s
  | .passDecR ir y => Sys2Proof.Machine.execPassDecR ir y s
  | .passLdRN ir y n => Sys2Proof.Machine.execPassLdRN ir y n s
  | .passRlca ir => Sys2Proof.Machine.execPassRlca ir s
  | .passRrca ir => Sys2Proof.Machine.execPassRrca ir s
  | .passRla ir => Sys2Proof.Machine.execPassRla ir s
  | .passRra ir => Sys2Proof.Machine.execPassRra ir s
  | .passDaa ir => Sys2Proof.Machine.execPassDaa ir s
  | .passCpl ir => Sys2Proof.Machine.execPassCpl ir s
  | .passScf ir => Sys2Proof.Machine.execPassScf ir s
  | .passCcf ir => Sys2Proof.Machine.execPassCcf ir s
  | .passLdRR ir y z => Sys2Proof.Machine.execPassLdRR ir y z s
  | .passHalt ir => Sys2Proof.Machine.execPassHalt ir s
  | .passAddR ir z => Sys2Proof.Machine.execPassAddR ir z s
  | .passAdcR ir z => Sys2Proof.Machine.execPassAdcR ir z s
  | .passSubR ir z => Sys2Proof.Machine.execPassSubR ir z s
  | .passSbcR ir z => Sys2Proof.Machine.execPassSbcR ir z s
  | .passAndR ir z => Sys2Proof.Machine.execPassAndR ir z s
  | .passXorR ir z => Sys2Proof.Machine.execPassXorR ir z s
  | .passOrR ir z => Sys2Proof.Machine.execPassOrR ir z s
  | .passCpR ir z => Sys2Proof.Machine.execPassCpR ir z s
  | .passRetCc ir y => Sys2Proof.Machine.execPassRetCc ir y s
  | .passPopRp2 ir p => Sys2Proof.Machine.execPassPopRp2 ir p s
  | .passRet ir => Sys2Proof.Machine.execPassRet ir s
  | .passExx ir => Sys2Proof.Machine.execPassExx ir s
  | .passJpCcNn ir y nn => Sys2Proof.Machine.execPassJpCcNn ir y nn s
  | .passJpNn ir nn => Sys2Proof.Machine.execPassJpNn ir nn s
  | .passOutNA ir n => Sys2Proof.Machine.execPassOutNA ir n s
  | .passInAN ir n => Sys2Proof.Machine.execPassInAN ir n s
  | .passExDeHl ir => Sys2Proof.Machine.execPassExDeHl ir s
  | .passDi ir => Sys2Proof.Machine.execPassDi ir s
  | .passEi ir => Sys2Proof.Machine.execPassEi ir s
  | .passCallCcNn ir y nn => Sys2Proof.Machine.execPassCallCcNn ir y nn s
  | .passPushRp2 ir p => Sys2Proof.Machine.execPassPushRp2 ir p s
  | .passCallNn ir nn => Sys2Proof.Machine.execPassCallNn ir nn s
  | .passAddN ir n => Sys2Proof.Machine.execPassAddN ir n s
  | .passAdcN ir n => Sys2Proof.Machine.execPassAdcN ir n s
  | .passSubN ir n => Sys2Proof.Machine.execPassSubN ir n s
  | .passSbcN ir n => Sys2Proof.Machine.execPassSbcN ir n s
  | .passAndN ir n => Sys2Proof.Machine.execPassAndN ir n s
  | .passXorN ir n => Sys2Proof.Machine.execPassXorN ir n s
  | .passOrN ir n => Sys2Proof.Machine.execPassOrN ir n s
  | .passCpN ir n => Sys2Proof.Machine.execPassCpN ir n s
  | .passRst ir y => Sys2Proof.Machine.execPassRst ir y s
  -- DD CB and FD CB forms (48: R336 to R346)
  | .xcbRlc ir d z => Sys2Proof.Machine.execXcbRlc ir d z s
  | .xcbRrc ir d z => Sys2Proof.Machine.execXcbRrc ir d z s
  | .xcbRl ir d z => Sys2Proof.Machine.execXcbRl ir d z s
  | .xcbRr ir d z => Sys2Proof.Machine.execXcbRr ir d z s
  | .xcbSla ir d z => Sys2Proof.Machine.execXcbSla ir d z s
  | .xcbSra ir d z => Sys2Proof.Machine.execXcbSra ir d z s
  | .xcbSll ir d z => Sys2Proof.Machine.execXcbSll ir d z s
  | .xcbSrl ir d z => Sys2Proof.Machine.execXcbSrl ir d z s
  | .xcbBit ir d y z => Sys2Proof.Machine.execXcbBit ir d y z s
  | .xcbRes ir d y z => Sys2Proof.Machine.execXcbRes ir d y z s
  | .xcbSet ir d y z => Sys2Proof.Machine.execXcbSet ir d y z s

end Sys2Proof.Machine
end

