-- ==== Sys2Proof/Machine/Disassembler.lean ====
section
/-! DEFINITION. The Disassembler (49_disassembler.md R360 to R366), the calls of the monitor (60_exceptions.md R384), and
the placing of an instruction where the next step fetches it. -/

namespace Sys2Proof.Machine

/-- Byte `k` of the instruction at the cursor, as the coming reads will return it: target memory at a Boundary; the byte
the `k`-th read draws when desynced, each read taking two forced instructions (41_channel_ops.md R112;
93_implementation_defined.md U1). -/
def fetchedByte (s : State) (k : Nat) : Byte :=
  if s.sync = .boundary then s.memory.read (s.pc + BitVec.ofNat 16 k).toNat
  else Config.freeByte (s.freeTick + 2 * k + 1)

/-- The instruction at the cursor (49_disassembler.md R360, R361). -/
def fetchInstr (s : State) : Instr :=
  decode (fetchedByte s 0) (fetchedByte s 1) (fetchedByte s 2) (fetchedByte s 3)

/-- Decode the instruction at the cursor: its meaning reads its bytes, once each, and returns text and length. -/
def decodeAtCursor (s : State) : Result := exec (fetchInstr s) s

/-- R361: `disassembleOne(address)`. Desynced, it decodes whatever bytes it is handed (U1). -/
def disassembleOne (address : Word) (s : State) : Result := decodeAtCursor { s with pc := address }

/-- The text of the last decode. -/
def returnedText (s : State) : Text :=
  match s.returned with
  | some (.decoded d) => d.text
  | _ => []

/-- R363: `disassembleN(A, N)`, the monitor's loop: each call starts at the address the one before returned. It returns
the listing and the next address. -/
def disassembleN : Word → Nat → State → Host.Outcome ((List (Word × Text) × Word) × State) Fault Refusal
  | address, 0, s => .next (([], address), s)
  | address, count + 1, s =>
    andThen (disassembleOne address s) fun s1 =>
      andThen (disassembleN s1.pc count s1) fun rest =>
        .next (((address, returnedText s1) :: rest.1.1, rest.1.2), rest.2)

/-- One call of the monitor (60_exceptions.md R384); what it returns is left in `returned` (log 14). -/
def runCall : HostCall → State → Result
  | .resetCpu, s => resetCpu s
  | .loadIndexRegister value, s => loadIndexRegister value s
  | .readByte address, s =>
    andThen (readByte address s) fun got => .next { got.2 with returned := some (.byte got.1) }
  | .readWord address, s =>
    andThen (readWord address s) fun got => .next { got.2 with returned := some (.word got.1) }
  | .writeByte address value, s => writeByte address value s
  | .disassembleOne address, s => disassembleOne address s
  | .primitive busOp, s => directPrimitive busOp s

/-- The monitor's next call, or, with none pending, the decode of the instruction at the cursor, as its listing loop does
(49_disassembler.md R363; log 12). -/
def nextCall (s : State) : Result :=
  match s.calls with
  | [] => decodeAtCursor s
  | c :: rest => runCall c { s with calls := rest }

/-- The bytes at consecutive addresses from `address`, modulo 2^16. -/
def placeBytes : List Byte → Word → Memory → Memory
  | [], _, m => m
  | b :: rest, address, m => placeBytes rest (address + 1) (m.write address.toNat b)

/-- The bits `w` of a row of spec/opcode_table.json placed at the cursor, with a session started and no call pending, so
that the next step decodes exactly them (log 6). -/
def placeTableWord (s : State) (w : Nat) : State :=
  { s with
    clk := .low
    rst := .released
    ramOvr := .released
    dbusDir := .inPullup
    sync := .boundary
    calls := []
    z80Place := .cycle (.fetch 0)
    memory := placeBytes (tableWindow w) s.pc s.memory }

end Sys2Proof.Machine
end

