-- ==== Sys2Proof/Machine/Step.lean ====
section
/-! DEFINITION. One step of the machine: one call of the monitor, run to completion. -/

namespace Sys2Proof.Machine

/-- One step (60_exceptions.md R384; 49_disassembler.md R361). -/
def step : State → Host.Outcome State Fault Refusal := fun s => nextCall s

/-- The state with the instruction of a table word where the next step fetches it (log 6). -/
def State.withFetchWord (s : State) (_nbits w : Nat) : State := placeTableWord s w

end Sys2Proof.Machine
end

