-- ==== Sys2Proof/Safety.lean ====
section
/-! DEFINITION. The terms claims are stated in: an operation boundary, the state a decode leaves, written in closed form
from the spec's tables of effects, and the invariant of every state. -/

namespace Sys2Proof.Machine

/-! ## Operation boundaries -/

/-- The pins as they are before and after every operation: `clk = LOW`, `ram_ovr = RELEASED`, `dbus_dir = IN_PULLUP`
(10_state.md R21; 70_reset_and_hazards.md R396). -/
def AtRest (s : State) : Prop := s.clk = .low ∧ s.ramOvr = .released ∧ s.dbusDir = .inPullup

/-- A session is open and no operation in flight: every channel operation is defined (41_channel_ops.md R120). -/
def Ready (s : State) : Prop := AtRest s ∧ s.sync = .boundary

/-- No session is open: UNKNOWN or LOST (93_implementation_defined.md U1). A broken caller may have left the override
asserted and the bus driven (U2); only a bus fight is shut out (U3). -/
def Desynced (s : State) : Prop :=
  s.clk = .low ∧ (s.dbusDir = .out → s.ramOvr = .asserted) ∧ s.sync ≠ .boundary

/-! ## The pin events of the operations, written out (41_channel_ops.md R110 to R113) -/

/-- `n` pulses. -/
def pulses (n : Nat) : List PinEvent := List.replicate n .pulse

/-- The events of `resetCpu` (R110). -/
def resetEvents : List PinEvent := [PinEvent.rstAssert] ++ pulses 6 ++ [PinEvent.rstRelease] ++ pulses 2

/-- The events of `loadIndexRegister(value)` (R111). -/
def loadEvents (value : Word) : List PinEvent :=
  pulses 1 ++ [PinEvent.ovrAssert, PinEvent.driveData 0x21] ++ pulses 2 ++ [PinEvent.releaseData] ++ pulses 2 ++
    [PinEvent.driveData (lo8 value)] ++ pulses 3 ++ [PinEvent.driveData (hi8 value)] ++ pulses 2 ++
    [PinEvent.releaseData, PinEvent.ovrRelease]

/-- The events of the forced `LD A,(HL)` when the byte sampled is `v` (R112, steps 1 to 9). -/
def ldAHlEvents (v : Byte) : List PinEvent :=
  pulses 1 ++ [PinEvent.ovrAssert, PinEvent.driveData 0x7E] ++ pulses 2 ++
    [PinEvent.releaseData, PinEvent.ovrRelease] ++ pulses 3 ++ [PinEvent.sample v] ++ pulses 1

/-- The events of the forced `LD (HL),n` (R113, steps 1 to 11). -/
def ldHlNEvents (value : Byte) : List PinEvent :=
  pulses 1 ++ [PinEvent.ovrAssert, PinEvent.driveData 0x36] ++ pulses 2 ++ [PinEvent.releaseData] ++ pulses 2 ++
    [PinEvent.driveData value] ++ pulses 2 ++ [PinEvent.releaseData, PinEvent.ovrRelease] ++ pulses 3

/-- The events of the forced `INC HL` (R113, steps 12 to 18). -/
def incHlEvents : List PinEvent :=
  pulses 1 ++ [PinEvent.ovrAssert, PinEvent.driveData 0x23] ++ pulses 2 ++
    [PinEvent.releaseData, PinEvent.ovrRelease] ++ pulses 3

/-- The events of `readByte(address)` when the byte sampled is `v` (R112). -/
def readEvents (address : Word) (v : Byte) : List PinEvent := loadEvents address ++ ldAHlEvents v

/-- The events of `writeByte(_, value)` (R113). -/
def writeEvents (value : Byte) : List PinEvent := ldHlNEvents value ++ incHlEvents

/-! ## What a decode leaves -/

/-- Byte `k` of the instruction at the cursor in target memory, addresses modulo 2^16 (30_encoding.md R75). -/
def targetByte (s : State) (k : Nat) : Byte := s.memory.read (s.pc + BitVec.ofNat 16 k).toNat

/-- The events of `count` reads from the cursor on, lowest address first. -/
def readsEvents (s : State) (count : Nat) : List PinEvent :=
  (List.range count).flatMap fun k => readEvents (s.pc + BitVec.ofNat 16 k) (targetByte s k)

/-- The state after `reads + 1` reads from the cursor on: target memory unchanged, HL the last address read, A its byte,
PC four further, R two further and 17 pulses more per read; `dbus_out` keeps the last byte driven, log 22
(49_disassembler.md R366; 30_encoding.md R85). -/
def afterReads (reads : Nat) (s : State) : State :=
  { s with
    dbusOut := 0x7E
    pinTrace := s.pinTrace ++ readsEvents s (reads + 1)
    pulseTotal := s.pulseTotal + 17 * (reads + 1)
    z80HL := s.pc + BitVec.ofNat 16 reads
    z80A := targetByte s reads
    z80PC := s.z80PC + BitVec.ofNat 16 (4 * (reads + 1))
    z80R := advanceR (2 * (reads + 1)) s.z80R
    hlLoaded := true
    readTrace := s.readTrace ++ (List.range (reads + 1)).map fun k => s.pc + BitVec.ofNat 16 k }

/-- The state a decode leaves that returns `text` and `len` after `reads` reads (at least one): the cursor advanced by
`len`, text, length, tuple and new address returned (49_disassembler.md R361, R366). -/
def decoded (pfx : PrefixClass) (opcode : Byte) (text : Text) (len reads : Nat) (s : State) : State :=
  { afterReads (reads - 1) s with
    pc := s.pc + BitVec.ofNat 16 len
    returned := some (.decoded ⟨pfx, fields opcode, text, len, s.pc + BitVec.ofNat 16 len⟩) }

/-- The rule of a form: `bytes` decode to `i`, whatever follows them; and in every open session `i` completes, reads its
bytes once each, returns `text` and the number of its bytes, and leaves the rest as `decoded` says, but for `dbus_out`,
which may hold any byte once the pins are inputs (U8). -/
def FormRule (i : Instr) (bytes : List Byte) (pfx : PrefixClass) (opcode : Byte) (text : Text) : Prop :=
  (∀ rest, decodeBytes (bytes ++ rest) = .ok (i, rest)) ∧
    ∀ s, Ready s → ∃ v, exec i s = .next { decoded pfx opcode text bytes.length bytes.length s with dbusOut := v }

/-- `FormRule` of an unprefixed form: the opcode byte is the first byte. -/
def UnprefixedRule (i : Instr) (bytes : List Byte) (text : Text) : Prop :=
  FormRule i bytes .unprefixed (byteAt bytes 0) text

/-- `FormRule` of a `CB` form. -/
def CbRule (i : Instr) (opcode : Byte) (text : Text) : Prop := FormRule i [0xCB, opcode] .cb opcode text

/-- `FormRule` of an `ED` form: `rest` are the bytes after the prefix. -/
def EdRule (i : Instr) (rest : List Byte) (text : Text) : Prop := FormRule i (0xED :: rest) .ed (byteAt rest 0) text

/-- `FormRule` of a form after `DD` (`ix`) and after `FD` (`iy`): `rest` are the bytes after the prefix. -/
def IndexRule (form : IndexReg → Instr) (rest : List Byte) (text : Text → Text) : Prop :=
  FormRule (form .ix) (0xDD :: rest) (.ddfd .ix) (byteAt rest 0) (text ['I', 'X']) ∧
    FormRule (form .iy) (0xFD :: rest) (.ddfd .iy) (byteAt rest 0) (text ['I', 'Y'])

/-- `FormRule` of a `DD CB d op` and `FD CB d op` form. -/
def IndexCbRule (form : IndexReg → Instr) (d opcode : Byte) (text : Text → Text) : Prop :=
  FormRule (form .ix) [0xDD, 0xCB, d, opcode] (.ddfd .ix) opcode (text ['I', 'X']) ∧
    FormRule (form .iy) [0xFD, 0xCB, d, opcode] (.ddfd .iy) opcode (text ['I', 'Y'])

/-! ## The output contract and the pulse contract -/

/-- The output contract of a decode (49_disassembler.md R364): what a decode returns, whatever bytes it was handed. -/
structure Decoded.ok (d : Decoded) : Prop where
  text_nonempty : d.text ≠ []
  len_min : 1 ≤ d.len
  len_max : d.len ≤ 4
  no_placeholder : ∀ c ∈ d.text, c.isLower = false
  cb_len : d.pfx = .cb → d.len = 2
  ed_nop : d.pfx = .ed → (d.tuple.x = 0 ∨ d.tuple.x = 3) → d.text = "NOP".toList
  text_min : 2 ≤ d.text.length
  text_max : d.text.length ≤ 13

/-- The byte a data-bus drive puts on the bus. -/
def PinEvent.driven : PinEvent → Option Byte
  | .driveData v => some v
  | .pulse | .releaseData | .sample _ | .ovrAssert | .ovrRelease | .rstAssert | .rstRelease => none

/-- From `s` to `t` the controller made `pulses` pulses, `pairs` override assertions and as many releases, and drove the
bytes `drives` on the data bus, in this order (41_channel_ops.md R121). -/
def Costs (pulses pairs : Nat) (drives : List Byte) (s t : State) : Prop :=
  t.pulseTotal = s.pulseTotal + pulses ∧
    ∃ events, t.pinTrace = s.pinTrace ++ events ∧ events.count .pulse = pulses ∧
      events.count .ovrAssert = pairs ∧ events.count .ovrRelease = pairs ∧ events.filterMap PinEvent.driven = drives

/-- From `s` to `t` the Z80 made `fetches` opcode fetches, each of an injected instruction: R has counted them, its bit 7
kept, and F and the interrupt state are unchanged (70_reset_and_hazards.md R401; log 23). -/
def Fetched (fetches : Nat) (s t : State) : Prop :=
  t.z80R.toNat % 128 = (s.z80R.toNat + fetches) % 128 ∧ t.z80R.toNat / 128 = s.z80R.toNat / 128 ∧
    t.z80F = s.z80F ∧ t.z80IntEnable = s.z80IntEnable ∧ t.z80IntMode = s.z80IntMode

/-! ## The invariant of every state -/

/-- The pin events since the Z80 was last put into reset. -/
def sinceReset (trace : List PinEvent) : List PinEvent :=
  (trace.reverse.takeWhile fun e => e != .rstAssert).reverse

/-- What a decode may have returned: `LEN_MIN <= len <= LEN_MAX` and a text that is not empty
(00_scope.md R7; 10_state.md R34; 49_disassembler.md R364). -/
def Returned.ok : Returned → Prop
  | .decoded d => 1 ≤ d.len ∧ d.len ≤ 4 ∧ d.text ≠ []
  | .byte _ => True
  | .word _ => True

/-- A T-state count the contract has: a cycle ends with its third T-state or, in the fetch, with the tail after it
(41_channel_ops.md R115). -/
def Phase.legal : Phase → Prop
  | .fetch t => t ≤ 2
  | .fetchTail _ left => 1 ≤ left ∧ left ≤ 3
  | .operand _ k _ t => k ≤ 1 ∧ t ≤ 2
  | .readHl t => t ≤ 2
  | .writeHl _ t => t ≤ 2
  | .other => False

/-- A position that fits the reset line and `sync`: a known machine cycle only out of reset, and none before the first
session is opened or lost (10_state.md R27; 41_channel_ops.md R110). -/
def Z80Place.ok (s : State) : Z80Place → Prop
  | .unknown => True
  | .resetting _ => s.rst = .asserted
  | .starting n => s.rst = .released ∧ n < nResetReleased
  | .cycle phase => s.rst = .released ∧ s.sync ≠ .unknown ∧ phase.legal

/-- What holds between any two steps: canonical memory, the clock LOW (10_state.md R21), no bus fight (R25), released and
input at a Boundary, out of reset (R27; 70_reset_and_hazards.md R396), `pulse_total` the number of `Pulse` events
(R26), in a session the override events since its reset paired (R396), a returned text within its bounds (R34), at a Boundary the
Z80 at the start of an opcode fetch (R27), any known position of it one the contract has (41_channel_ops.md R115), and no
bus fight in a write cycle (93_implementation_defined.md U3). -/
structure StateInv (s : State) : Prop where
  memory_wf : s.memory.wf = true
  clk_low : s.clk = .low
  bus_owned : s.dbusDir = .out → s.ramOvr = .asserted
  boundary_place : s.sync = .boundary → s.z80Place = .cycle (.fetch 0)
  boundary_rest : s.sync = .boundary → s.ramOvr = .released ∧ s.dbusDir = .inPullup ∧ s.rst = .released
  pulses_counted : s.pulseTotal = s.pinTrace.count .pulse
  override_paired : s.sync = .boundary →
    (sinceReset s.pinTrace).count .ovrAssert = (sinceReset s.pinTrace).count .ovrRelease
  returned_ok : ∀ r, s.returned = some r → r.ok
  place_ok : s.z80Place.ok s
  write_undriven : ∀ v t, s.z80Place = .cycle (.writeHl v (t + 1)) → s.dbusDir = .inPullup

end Sys2Proof.Machine
end

