-- ==== Sys2Proof/Certificates/Slice0/Obligations.lean ====
section
/-! DEFINITION. The statements about the machine. A form's statement says, for every operand its encoding admits, which
bytes decode to it and that it completes in every open session, with its text, its length, its reads, its whole effect
and, the state being written out whole, its frame. -/

open Sys2Proof Sys2Proof.Machine

/-! ## The instruction forms -/

/-- The byte `00`, whatever follows it, decodes to NOP, and in every open session that instruction completes at any
address with text NOP, length 1 and one read. The next state is written out whole: the count of R and its bit 7 are
log 23 (PRESUMED), the pulses, the step placement and PC decisions D26 to D28 and general knowledge (log 21). -/
def Obligations.NopRule : Prop :=
  UnprefixedRule .nop [0x00] ("NOP".toList)

/-- The unprefixed forms EX AF,AF', DJNZ d, JR d, JR cc,d and RLCA to CCF: bytes, text with the displacement as a raw
unsigned byte, and length. The cells of the opcode map are general knowledge and decision D3. The next state is
written out whole: the count of R and its bit 7 are log 23 (PRESUMED), the pulses, the step placement and PC decisions
D26 to D28 and general knowledge (log 21). -/
def Obligations.JumpAndAccumulatorForms : Prop :=
  UnprefixedRule .exAfAf [0x08] ("EX AF,AF'".toList) ∧
  (∀ d, UnprefixedRule (.djnz d) [0x10, d] ("DJNZ ".toList ++ hex2 d)) ∧
  (∀ d, UnprefixedRule (.jr d) [0x18, d] ("JR ".toList ++ hex2 d)) ∧
  (∀ y d, 4 ≤ y → UnprefixedRule (.jrCc y d) [op 0 y 0, d] ("JR ".toList ++ condition (y - 4) ++ ",".toList
    ++ hex2 d)) ∧
  UnprefixedRule .rlca [0x07] ("RLCA".toList) ∧
  UnprefixedRule .rrca [0x0F] ("RRCA".toList) ∧
  UnprefixedRule .rla [0x17] ("RLA".toList) ∧
  UnprefixedRule .rra [0x1F] ("RRA".toList) ∧
  UnprefixedRule .daa [0x27] ("DAA".toList) ∧
  UnprefixedRule .cpl [0x2F] ("CPL".toList) ∧
  UnprefixedRule .scf [0x37] ("SCF".toList) ∧
  UnprefixedRule .ccf [0x3F] ("CCF".toList)

/-- LD rp,nn; ADD HL,rp; INC/DEC rp; INC/DEC r and (HL); LD r,n; LD (HL),n: bytes, text and length, the 16-bit operand
low byte first in memory. The cells of the opcode map are general knowledge and decision D3. The next state is written
out whole: the count of R and its bit 7 are log 23 (PRESUMED), the pulses, the step placement and PC decisions D26 to
D28 and general knowledge (log 21). -/
def Obligations.PairAndByteForms : Prop :=
  (∀ p nn, UnprefixedRule (.ldRpNn p nn) [op 0 (ofPQ p 0) 1, lo8 nn, hi8 nn] ("LD ".toList ++ registerPair16 p
    ++ ",".toList ++ hex4 nn)) ∧
  (∀ p, UnprefixedRule (.addHlRp p) [op 0 (ofPQ p 1) 1] ("ADD HL,".toList ++ registerPair16 p)) ∧
  (∀ p, UnprefixedRule (.incRp p) [op 0 (ofPQ p 0) 3] ("INC ".toList ++ registerPair16 p)) ∧
  (∀ p, UnprefixedRule (.decRp p) [op 0 (ofPQ p 1) 3] ("DEC ".toList ++ registerPair16 p)) ∧
  (∀ y, y ≠ 6 → UnprefixedRule (.incR y) [op 0 y 4] ("INC ".toList ++ register8 y)) ∧
  UnprefixedRule .incM [0x34] ("INC (HL)".toList) ∧
  (∀ y, y ≠ 6 → UnprefixedRule (.decR y) [op 0 y 5] ("DEC ".toList ++ register8 y)) ∧
  UnprefixedRule .decM [0x35] ("DEC (HL)".toList) ∧
  (∀ y n, y ≠ 6 → UnprefixedRule (.ldRN y n) [op 0 y 6, n] ("LD ".toList ++ register8 y ++ ",".toList ++ hex2 n)) ∧
  (∀ n, UnprefixedRule (.ldMN n) [0x36, n] ("LD (HL),".toList ++ hex2 n))

/-- LD (BC),A to LD A,(nn): bytes, text with the placeholder nn filled in, and length. The cells of the opcode map are
general knowledge and decision D3. The next state is written out whole: the count of R and its bit 7 are log 23
(PRESUMED), the pulses, the step placement and PC decisions D26 to D28 and general knowledge (log 21). -/
def Obligations.IndirectLoadForms : Prop :=
  UnprefixedRule .ldBcA [0x02] ("LD (BC),A".toList) ∧
  UnprefixedRule .ldDeA [0x12] ("LD (DE),A".toList) ∧
  (∀ nn, UnprefixedRule (.ldNnHl nn) [0x22, lo8 nn, hi8 nn] ("LD (".toList ++ hex4 nn ++ "),HL".toList)) ∧
  (∀ nn, UnprefixedRule (.ldNnA nn) [0x32, lo8 nn, hi8 nn] ("LD (".toList ++ hex4 nn ++ "),A".toList)) ∧
  UnprefixedRule .ldABc [0x0A] ("LD A,(BC)".toList) ∧
  UnprefixedRule .ldADe [0x1A] ("LD A,(DE)".toList) ∧
  (∀ nn, UnprefixedRule (.ldHlNni nn) [0x2A, lo8 nn, hi8 nn] ("LD HL,(".toList ++ hex4 nn ++ ")".toList)) ∧
  (∀ nn, UnprefixedRule (.ldANni nn) [0x3A, lo8 nn, hi8 nn] ("LD A,(".toList ++ hex4 nn ++ ")".toList))

/-- The 8-bit loads between registers and with (HL), for every register index but 6, and HALT in the cell where LD
(HL),(HL) would be. The cells of the opcode map are general knowledge and decision D3. The next state is written out
whole: the count of R and its bit 7 are log 23 (PRESUMED), the pulses, the step placement and PC decisions D26 to D28
and general knowledge (log 21). -/
def Obligations.LoadAndHaltForms : Prop :=
  (∀ y z, y ≠ 6 → z ≠ 6 → UnprefixedRule (.ldRR y z) [op 1 y z] ("LD ".toList ++ register8 y ++ ",".toList
    ++ register8 z)) ∧
  (∀ y, y ≠ 6 → UnprefixedRule (.ldRM y) [op 1 y 6] ("LD ".toList ++ register8 y ++ ",(HL)".toList)) ∧
  (∀ z, z ≠ 6 → UnprefixedRule (.ldMR z) [op 1 6 z] ("LD (HL),".toList ++ register8 z)) ∧
  UnprefixedRule .halt [0x76] ("HALT".toList)

/-- ADD A to CP with a register operand and with (HL): bytes, text and length 1. The cells of the opcode map are
general knowledge and decision D3. The next state is written out whole: the count of R and its bit 7 are log 23
(PRESUMED), the pulses, the step placement and PC decisions D26 to D28 and general knowledge (log 21). -/
def Obligations.AccumulatorOperationForms : Prop :=
  (∀ z, z ≠ 6 → UnprefixedRule (.addR z) [op 2 0 z] ("ADD A,".toList ++ register8 z)) ∧
  UnprefixedRule .addM [0x86] ("ADD A,(HL)".toList) ∧
  (∀ z, z ≠ 6 → UnprefixedRule (.adcR z) [op 2 1 z] ("ADC A,".toList ++ register8 z)) ∧
  UnprefixedRule .adcM [0x8E] ("ADC A,(HL)".toList) ∧
  (∀ z, z ≠ 6 → UnprefixedRule (.subR z) [op 2 2 z] ("SUB ".toList ++ register8 z)) ∧
  UnprefixedRule .subM [0x96] ("SUB (HL)".toList) ∧
  (∀ z, z ≠ 6 → UnprefixedRule (.sbcR z) [op 2 3 z] ("SBC A,".toList ++ register8 z)) ∧
  UnprefixedRule .sbcM [0x9E] ("SBC A,(HL)".toList) ∧
  (∀ z, z ≠ 6 → UnprefixedRule (.andR z) [op 2 4 z] ("AND ".toList ++ register8 z)) ∧
  UnprefixedRule .andM [0xA6] ("AND (HL)".toList) ∧
  (∀ z, z ≠ 6 → UnprefixedRule (.xorR z) [op 2 5 z] ("XOR ".toList ++ register8 z)) ∧
  UnprefixedRule .xorM [0xAE] ("XOR (HL)".toList) ∧
  (∀ z, z ≠ 6 → UnprefixedRule (.orR z) [op 2 6 z] ("OR ".toList ++ register8 z)) ∧
  UnprefixedRule .orM [0xB6] ("OR (HL)".toList) ∧
  (∀ z, z ≠ 6 → UnprefixedRule (.cpR z) [op 2 7 z] ("CP ".toList ++ register8 z)) ∧
  UnprefixedRule .cpM [0xBE] ("CP (HL)".toList)

/-- RET cc, RET, JP (HL), JP cc,nn, JP nn, CALL cc,nn, CALL nn and RST p: bytes, text and length; the cursor advances
by the length and never follows the instruction. The cells of the opcode map are general knowledge and decision D3.
The next state is written out whole: the count of R and its bit 7 are log 23 (PRESUMED), the pulses, the step
placement and PC decisions D26 to D28 and general knowledge (log 21). -/
def Obligations.ControlFlowForms : Prop :=
  (∀ y, UnprefixedRule (.retCc y) [op 3 y 0] ("RET ".toList ++ condition y)) ∧
  UnprefixedRule .ret [0xC9] ("RET".toList) ∧
  UnprefixedRule .jpHl [0xE9] ("JP (HL)".toList) ∧
  (∀ y nn, UnprefixedRule (.jpCcNn y nn) [op 3 y 2, lo8 nn, hi8 nn] ("JP ".toList ++ condition y ++ ",".toList
    ++ hex4 nn)) ∧
  (∀ nn, UnprefixedRule (.jpNn nn) [0xC3, lo8 nn, hi8 nn] ("JP ".toList ++ hex4 nn)) ∧
  (∀ y nn, UnprefixedRule (.callCcNn y nn) [op 3 y 4, lo8 nn, hi8 nn] ("CALL ".toList ++ condition y
    ++ ",".toList ++ hex4 nn)) ∧
  (∀ nn, UnprefixedRule (.callNn nn) [0xCD, lo8 nn, hi8 nn] ("CALL ".toList ++ hex4 nn)) ∧
  (∀ y, UnprefixedRule (.rst y) [op 3 y 7] ("RST ".toList ++ hex2 (BitVec.ofNat 8 (y.val * 8))))

/-- POP and PUSH with AF in the place of SP, EXX, LD SP,HL, EX (SP),HL, EX DE,HL, OUT (n),A, IN A,(n), DI and EI:
bytes, text and length. The cells of the opcode map are general knowledge and decision D3. The next state is written
out whole: the count of R and its bit 7 are log 23 (PRESUMED), the pulses, the step placement and PC decisions D26 to
D28 and general knowledge (log 21). -/
def Obligations.StackExchangeAndPortForms : Prop :=
  (∀ p, UnprefixedRule (.popRp2 p) [op 3 (ofPQ p 0) 1] ("POP ".toList ++ registerPair16Alt p)) ∧
  (∀ p, UnprefixedRule (.pushRp2 p) [op 3 (ofPQ p 0) 5] ("PUSH ".toList ++ registerPair16Alt p)) ∧
  UnprefixedRule .exx [0xD9] ("EXX".toList) ∧
  UnprefixedRule .ldSpHl [0xF9] ("LD SP,HL".toList) ∧
  UnprefixedRule .exSpHl [0xE3] ("EX (SP),HL".toList) ∧
  UnprefixedRule .exDeHl [0xEB] ("EX DE,HL".toList) ∧
  (∀ n, UnprefixedRule (.outNA n) [0xD3, n] ("OUT (".toList ++ hex2 n ++ "),A".toList)) ∧
  (∀ n, UnprefixedRule (.inAN n) [0xDB, n] ("IN A,(".toList ++ hex2 n ++ ")".toList)) ∧
  UnprefixedRule .di [0xF3] ("DI".toList) ∧
  UnprefixedRule .ei [0xFB] ("EI".toList)

/-- ADD A,n to CP n: bytes, text with two hexadecimal digits, and length 2. The cells of the opcode map are general
knowledge and decision D3. The next state is written out whole: the count of R and its bit 7 are log 23 (PRESUMED),
the pulses, the step placement and PC decisions D26 to D28 and general knowledge (log 21). -/
def Obligations.ImmediateOperationForms : Prop :=
  (∀ n, UnprefixedRule (.addN n) [0xC6, n] ("ADD A,".toList ++ hex2 n)) ∧
  (∀ n, UnprefixedRule (.adcN n) [0xCE, n] ("ADC A,".toList ++ hex2 n)) ∧
  (∀ n, UnprefixedRule (.subN n) [0xD6, n] ("SUB ".toList ++ hex2 n)) ∧
  (∀ n, UnprefixedRule (.sbcN n) [0xDE, n] ("SBC A,".toList ++ hex2 n)) ∧
  (∀ n, UnprefixedRule (.andN n) [0xE6, n] ("AND ".toList ++ hex2 n)) ∧
  (∀ n, UnprefixedRule (.xorN n) [0xEE, n] ("XOR ".toList ++ hex2 n)) ∧
  (∀ n, UnprefixedRule (.orN n) [0xF6, n] ("OR ".toList ++ hex2 n)) ∧
  (∀ n, UnprefixedRule (.cpN n) [0xFE, n] ("CP ".toList ++ hex2 n))

/-- After CB (`CB CB` is SET 1,E, log 25), with X = 0 the rotate named by Y (but index 6) on the operand Z, with X =
1, 2, 3 BIT, RES, SET of bit Y, one decimal digit, on the operand Z; length 2, two reads. The next state is written
out whole: the count of R and its bit 7 are log 23 (PRESUMED), the pulses, the step placement and PC decisions D26 to
D28 and general knowledge (log 21). -/
def Obligations.CbForms : Prop :=
  (∀ z, CbRule (.cbRlc z) (op 0 0 z) ("RLC ".toList ++ register8 z)) ∧
  (∀ z, CbRule (.cbRrc z) (op 0 1 z) ("RRC ".toList ++ register8 z)) ∧
  (∀ z, CbRule (.cbRl z) (op 0 2 z) ("RL ".toList ++ register8 z)) ∧
  (∀ z, CbRule (.cbRr z) (op 0 3 z) ("RR ".toList ++ register8 z)) ∧
  (∀ z, CbRule (.cbSla z) (op 0 4 z) ("SLA ".toList ++ register8 z)) ∧
  (∀ z, CbRule (.cbSra z) (op 0 5 z) ("SRA ".toList ++ register8 z)) ∧
  (∀ z, CbRule (.cbSrl z) (op 0 7 z) ("SRL ".toList ++ register8 z)) ∧
  (∀ y z, CbRule (.cbBit y z) (op 1 y z) ("BIT ".toList ++ dec1 y ++ ",".toList ++ register8 z)) ∧
  (∀ y z, CbRule (.cbRes y z) (op 2 y z) ("RES ".toList ++ dec1 y ++ ",".toList ++ register8 z)) ∧
  (∀ y z, CbRule (.cbSet y z) (op 3 y z) ("SET ".toList ++ dec1 y ++ ",".toList ++ register8 z))

/-- IN r,(C), IN (C), OUT (C),r, OUT (C),0, SBC HL,rp, ADC HL,rp, LD (nn),rp and LD rp,(nn): bytes, text and length, 4
for the long loads. The cells of the opcode map are general knowledge and decision D3. The next state is written out
whole: the count of R and its bit 7 are log 23 (PRESUMED), the pulses, the step placement and PC decisions D26 to D28
and general knowledge (log 21). -/
def Obligations.EdPortAndPairForms : Prop :=
  (∀ y, y ≠ 6 → EdRule (.inRC y) [op 1 y 0] ("IN ".toList ++ register8 y ++ ",(C)".toList)) ∧
  EdRule .inC [0x70] ("IN (C)".toList) ∧
  (∀ y, y ≠ 6 → EdRule (.outCR y) [op 1 y 1] ("OUT (C),".toList ++ register8 y)) ∧
  EdRule .outC0 [0x71] ("OUT (C),0".toList) ∧
  (∀ p, EdRule (.sbcHlRp p) [op 1 (ofPQ p 0) 2] ("SBC HL,".toList ++ registerPair16 p)) ∧
  (∀ p, EdRule (.adcHlRp p) [op 1 (ofPQ p 1) 2] ("ADC HL,".toList ++ registerPair16 p)) ∧
  (∀ p nn, EdRule (.ldNnRp p nn) [op 1 (ofPQ p 0) 3, lo8 nn, hi8 nn] ("LD (".toList ++ hex4 nn ++ "),".toList
    ++ registerPair16 p)) ∧
  (∀ p nn, EdRule (.ldRpNni p nn) [op 1 (ofPQ p 1) 3, lo8 nn, hi8 nn] ("LD ".toList ++ registerPair16 p
    ++ ",(".toList ++ hex4 nn ++ ")".toList))

/-- NEG for every Y, RETN for every Y but 1, RETI, IM with the mode of Y mod 4, LD I,A to RLD: bytes, text and length
2. The cells of the opcode map are general knowledge and decision D3. The next state is written out whole: the count
of R and its bit 7 are log 23 (PRESUMED), the pulses, the step placement and PC decisions D26 to D28 and general
knowledge (log 21). -/
def Obligations.EdSystemForms : Prop :=
  (∀ y, EdRule (.neg y) [op 1 y 4] ("NEG".toList)) ∧
  (∀ y, y ≠ 1 → EdRule (.retn y) [op 1 y 5] ("RETN".toList)) ∧
  EdRule .reti [0x4D] ("RETI".toList) ∧
  (∀ y, EdRule (.im y) [op 1 y 6] ("IM ".toList ++ interruptMode (Fin.ofNat 4 (y.val % 4)))) ∧
  EdRule .ldIA [0x47] ("LD I,A".toList) ∧
  EdRule .ldRA [0x4F] ("LD R,A".toList) ∧
  EdRule .ldAI [0x57] ("LD A,I".toList) ∧
  EdRule .ldAR [0x5F] ("LD A,R".toList) ∧
  EdRule .rrd [0x67] ("RRD".toList) ∧
  EdRule .rld [0x6F] ("RLD".toList)

/-- ED A0 to ED A3 and ED A8 to ED AB decode to LDI, CPI, INI, OUTI, LDD, CPD, IND, OUTD, length 2, two reads. The
next state is written out whole: the count of R and its bit 7 are log 23 (PRESUMED), the pulses, the step placement
and PC decisions D26 to D28 and general knowledge (log 21). -/
def Obligations.EdBlockForms : Prop :=
  EdRule .ldi [0xA0] ("LDI".toList) ∧
  EdRule .cpi [0xA1] ("CPI".toList) ∧
  EdRule .ini [0xA2] ("INI".toList) ∧
  EdRule .outi [0xA3] ("OUTI".toList) ∧
  EdRule .ldd [0xA8] ("LDD".toList) ∧
  EdRule .cpd [0xA9] ("CPD".toList) ∧
  EdRule .ind [0xAA] ("IND".toList) ∧
  EdRule .outd [0xAB] ("OUTD".toList)

/-- ED B0 to ED B3 and ED B8 to ED BB decode to LDIR, CPIR, INIR, OTIR, LDDR, CPDR, INDR, OTDR, length 2, two reads.
The next state is written out whole: the count of R and its bit 7 are log 23 (PRESUMED), the pulses, the step
placement and PC decisions D26 to D28 and general knowledge (log 21). -/
def Obligations.EdRepeatBlockForms : Prop :=
  EdRule .ldir [0xB0] ("LDIR".toList) ∧
  EdRule .cpir [0xB1] ("CPIR".toList) ∧
  EdRule .inir [0xB2] ("INIR".toList) ∧
  EdRule .otir [0xB3] ("OTIR".toList) ∧
  EdRule .lddr [0xB8] ("LDDR".toList) ∧
  EdRule .cpdr [0xB9] ("CPDR".toList) ∧
  EdRule .indr [0xBA] ("INDR".toList) ∧
  EdRule .otdr [0xBB] ("OTDR".toList)

/-- ED followed by 77, 7F, by a byte of X = 2 outside the block cells, or by any byte of X = 0 or X = 3 decodes to
NOP, two reads; the length 2 is decision D13. The next state is written out whole: the count of R and its bit 7 are
log 23 (PRESUMED), the pulses, the step placement and PC decisions D26 to D28 and general knowledge (log 21). -/
def Obligations.EdFallbackForms : Prop :=
  (∀ y, 6 ≤ y → EdRule (.edNopX1 y) [op 1 y 7] ("NOP".toList)) ∧
  (∀ y z, y < 4 ∨ 4 ≤ z → EdRule (.edNopX2 y z) [op 2 y z] ("NOP".toList)) ∧
  (∀ y z, EdRule (.edNopX0 y z) [op 0 y z] ("NOP".toList)) ∧
  (∀ y z, EdRule (.edNopX3 y z) [op 3 y z] ("NOP".toList))

/-- A DD or FD followed by DD, ED or FD decodes to NOP, length 1; the second byte is read and not consumed: it stands
at the head of what remains, and two reads are made. The next state is written out whole: the count of R and its bit 7
are log 23 (PRESUMED), the pulses, the step placement and PC decisions D26 to D28 and general knowledge (log 21). -/
def Obligations.LonePrefixForms : Prop :=
  (∀ jr rest, decodeBytes (0xDD :: prefixByte jr :: rest) = .ok (.loneDdFd .ix jr, prefixByte jr :: rest) ∧
    decodeBytes (0xFD :: prefixByte jr :: rest) = .ok (.loneDdFd .iy jr, prefixByte jr :: rest)) ∧
  (∀ rest, decodeBytes (0xDD :: 0xED :: rest) = .ok (.loneEd .ix, 0xED :: rest) ∧
    decodeBytes (0xFD :: 0xED :: rest) = .ok (.loneEd .iy, 0xED :: rest)) ∧
  (prefixByte .ix = 0xDD ∧ prefixByte .iy = 0xFD) ∧
  ∀ ir jr s, Ready s →
    (∃ v, exec (.loneDdFd ir jr) s =
      .next { decoded (.ddfd ir) (prefixByte jr) "NOP".toList 1 2 s with dbusOut := v }) ∧
    ∃ v, exec (.loneEd ir) s = .next { decoded (.ddfd ir) 0xED "NOP".toList 1 2 s with dbusOut := v }

/-- ADD I,rp to DEC I, POP I, EX (SP),I, PUSH I, JP (I) and LD SP,I, after DD with IX and after FD with IY: bytes,
text and length. The cells of the opcode map are general knowledge and decision D3. The next state is written out
whole: the count of R and its bit 7 are log 23 (PRESUMED), the pulses, the step placement and PC decisions D26 to D28
and general knowledge (log 21). -/
def Obligations.IndexPairForms : Prop :=
  (∀ p, IndexRule (fun ir => .addIRp ir p) [op 0 (ofPQ p 1) 1] (fun I => "ADD ".toList ++ I ++ ",".toList ++
    (if p = 2 then I else registerPair16 p))) ∧
  (∀ nn, IndexRule (fun ir => .ldINn ir nn) [0x21, lo8 nn, hi8 nn] (fun I => "LD ".toList ++ I ++ ",".toList
    ++ hex4 nn)) ∧
  (∀ nn, IndexRule (fun ir => .ldNnI ir nn) [0x22, lo8 nn, hi8 nn] (fun I => "LD (".toList ++ hex4 nn
    ++ "),".toList ++ I)) ∧
  IndexRule (fun ir => .incI ir) [0x23] (fun I => "INC ".toList ++ I) ∧
  (∀ nn, IndexRule (fun ir => .ldINni ir nn) [0x2A, lo8 nn, hi8 nn] (fun I => "LD ".toList ++ I ++ ",(".toList
    ++ hex4 nn ++ ")".toList)) ∧
  IndexRule (fun ir => .decI ir) [0x2B] (fun I => "DEC ".toList ++ I) ∧
  IndexRule (fun ir => .popI ir) [0xE1] (fun I => "POP ".toList ++ I) ∧
  IndexRule (fun ir => .exSpI ir) [0xE3] (fun I => "EX (SP),".toList ++ I) ∧
  IndexRule (fun ir => .pushI ir) [0xE5] (fun I => "PUSH ".toList ++ I) ∧
  IndexRule (fun ir => .jpI ir) [0xE9] (fun I => "JP (".toList ++ I ++ ")".toList) ∧
  IndexRule (fun ir => .ldSpI ir) [0xF9] (fun I => "LD SP,".toList ++ I)

/-- INC (I+d) to CP (I+d), after DD with IX and after FD with IY: the displacement stands right after the opcode byte
and is printed as an unsigned byte; a register operand H or L keeps its name; length 3, and 4 for LD (I+d),n. The
cells of the opcode map are general knowledge and decision D3. The next state is written out whole: the count of R and
its bit 7 are log 23 (PRESUMED), the pulses, the step placement and PC decisions D26 to D28 and general knowledge (log
21). -/
def Obligations.IndexMemoryForms : Prop :=
  (∀ d, IndexRule (fun ir => .incID ir d) [0x34, d] (fun I => "INC (".toList ++ I ++ "+".toList ++ hex2 d
    ++ ")".toList)) ∧
  (∀ d, IndexRule (fun ir => .decID ir d) [0x35, d] (fun I => "DEC (".toList ++ I ++ "+".toList ++ hex2 d
    ++ ")".toList)) ∧
  (∀ d n, IndexRule (fun ir => .ldIDN ir d n) [0x36, d, n] (fun I => "LD (".toList ++ I ++ "+".toList
    ++ hex2 d ++ "),".toList ++ hex2 n)) ∧
  (∀ y d, y ≠ 6 → IndexRule (fun ir => .ldRID ir y d) [op 1 y 6, d] (fun I => "LD ".toList ++ register8 y
    ++ ",(".toList ++ I ++ "+".toList ++ hex2 d ++ ")".toList)) ∧
  (∀ d z, z ≠ 6 → IndexRule (fun ir => .ldIDR ir d z) [op 1 6 z, d] (fun I => "LD (".toList ++ I ++ "+".toList
    ++ hex2 d ++ "),".toList ++ register8 z)) ∧
  (∀ d, IndexRule (fun ir => .addID ir d) [0x86, d] (fun I => "ADD A,(".toList ++ I ++ "+".toList ++ hex2 d
    ++ ")".toList)) ∧
  (∀ d, IndexRule (fun ir => .adcID ir d) [0x8E, d] (fun I => "ADC A,(".toList ++ I ++ "+".toList ++ hex2 d
    ++ ")".toList)) ∧
  (∀ d, IndexRule (fun ir => .subID ir d) [0x96, d] (fun I => "SUB (".toList ++ I ++ "+".toList ++ hex2 d
    ++ ")".toList)) ∧
  (∀ d, IndexRule (fun ir => .sbcID ir d) [0x9E, d] (fun I => "SBC A,(".toList ++ I ++ "+".toList ++ hex2 d
    ++ ")".toList)) ∧
  (∀ d, IndexRule (fun ir => .andID ir d) [0xA6, d] (fun I => "AND (".toList ++ I ++ "+".toList ++ hex2 d
    ++ ")".toList)) ∧
  (∀ d, IndexRule (fun ir => .xorID ir d) [0xAE, d] (fun I => "XOR (".toList ++ I ++ "+".toList ++ hex2 d
    ++ ")".toList)) ∧
  (∀ d, IndexRule (fun ir => .orID ir d) [0xB6, d] (fun I => "OR (".toList ++ I ++ "+".toList ++ hex2 d
    ++ ")".toList)) ∧
  (∀ d, IndexRule (fun ir => .cpID ir d) [0xBE, d] (fun I => "CP (".toList ++ I ++ "+".toList ++ hex2 d
    ++ ")".toList))

/-- The unprefixed forms of X = 0 that pass through a DD or FD prefix: the unprefixed text, length one more. The next
state is written out whole: the count of R and its bit 7 are log 23 (PRESUMED), the pulses, the step placement and PC
decisions D26 to D28 and general knowledge (log 21). -/
def Obligations.PassThroughFormsX0 : Prop :=
  IndexRule (fun ir => .passNop ir) [0x00] (fun _ => "NOP".toList) ∧
  IndexRule (fun ir => .passExAfAf ir) [0x08] (fun _ => "EX AF,AF'".toList) ∧
  (∀ d, IndexRule (fun ir => .passDjnz ir d) [0x10, d] (fun _ => "DJNZ ".toList ++ hex2 d)) ∧
  (∀ d, IndexRule (fun ir => .passJr ir d) [0x18, d] (fun _ => "JR ".toList ++ hex2 d)) ∧
  (∀ y d, 4 ≤ y → IndexRule (fun ir => .passJrCc ir y d) [op 0 y 0, d] (fun _ => "JR ".toList
    ++ condition (y - 4) ++ ",".toList ++ hex2 d)) ∧
  (∀ p nn, p ≠ 2 → IndexRule (fun ir => .passLdRpNn ir p nn) [op 0 (ofPQ p 0) 1, lo8 nn, hi8 nn]
    (fun _ => "LD ".toList ++ registerPair16 p ++ ",".toList ++ hex4 nn)) ∧
  IndexRule (fun ir => .passLdBcA ir) [0x02] (fun _ => "LD (BC),A".toList) ∧
  IndexRule (fun ir => .passLdDeA ir) [0x12] (fun _ => "LD (DE),A".toList) ∧
  (∀ nn, IndexRule (fun ir => .passLdNnA ir nn) [0x32, lo8 nn, hi8 nn] (fun _ => "LD (".toList ++ hex4 nn
    ++ "),A".toList)) ∧
  IndexRule (fun ir => .passLdABc ir) [0x0A] (fun _ => "LD A,(BC)".toList) ∧
  IndexRule (fun ir => .passLdADe ir) [0x1A] (fun _ => "LD A,(DE)".toList) ∧
  (∀ nn, IndexRule (fun ir => .passLdANni ir nn) [0x3A, lo8 nn, hi8 nn] (fun _ => "LD A,(".toList ++ hex4 nn
    ++ ")".toList)) ∧
  (∀ p, p ≠ 2 → IndexRule (fun ir => .passIncRp ir p) [op 0 (ofPQ p 0) 3] (fun _ => "INC ".toList
    ++ registerPair16 p)) ∧
  (∀ p, p ≠ 2 → IndexRule (fun ir => .passDecRp ir p) [op 0 (ofPQ p 1) 3] (fun _ => "DEC ".toList
    ++ registerPair16 p)) ∧
  (∀ y, y ≠ 6 → IndexRule (fun ir => .passIncR ir y) [op 0 y 4] (fun _ => "INC ".toList ++ register8 y)) ∧
  (∀ y, y ≠ 6 → IndexRule (fun ir => .passDecR ir y) [op 0 y 5] (fun _ => "DEC ".toList ++ register8 y)) ∧
  (∀ y n, y ≠ 6 → IndexRule (fun ir => .passLdRN ir y n) [op 0 y 6, n] (fun _ => "LD ".toList ++ register8 y
    ++ ",".toList ++ hex2 n)) ∧
  IndexRule (fun ir => .passRlca ir) [0x07] (fun _ => "RLCA".toList) ∧
  IndexRule (fun ir => .passRrca ir) [0x0F] (fun _ => "RRCA".toList) ∧
  IndexRule (fun ir => .passRla ir) [0x17] (fun _ => "RLA".toList) ∧
  IndexRule (fun ir => .passRra ir) [0x1F] (fun _ => "RRA".toList) ∧
  IndexRule (fun ir => .passDaa ir) [0x27] (fun _ => "DAA".toList) ∧
  IndexRule (fun ir => .passCpl ir) [0x2F] (fun _ => "CPL".toList) ∧
  IndexRule (fun ir => .passScf ir) [0x37] (fun _ => "SCF".toList) ∧
  IndexRule (fun ir => .passCcf ir) [0x3F] (fun _ => "CCF".toList)

/-- LD r,r', HALT and the accumulator operations on a register pass through a DD or FD prefix: the unprefixed text, H
and L keeping their names, length one more. The next state is written out whole: the count of R and its bit 7 are log
23 (PRESUMED), the pulses, the step placement and PC decisions D26 to D28 and general knowledge (log 21). -/
def Obligations.PassThroughFormsX1X2 : Prop :=
  (∀ y z, y ≠ 6 → z ≠ 6 → IndexRule (fun ir => .passLdRR ir y z) [op 1 y z] (fun _ => "LD ".toList
    ++ register8 y ++ ",".toList ++ register8 z)) ∧
  IndexRule (fun ir => .passHalt ir) [0x76] (fun _ => "HALT".toList) ∧
  (∀ z, z ≠ 6 → IndexRule (fun ir => .passAddR ir z) [op 2 0 z] (fun _ => "ADD A,".toList ++ register8 z)) ∧
  (∀ z, z ≠ 6 → IndexRule (fun ir => .passAdcR ir z) [op 2 1 z] (fun _ => "ADC A,".toList ++ register8 z)) ∧
  (∀ z, z ≠ 6 → IndexRule (fun ir => .passSubR ir z) [op 2 2 z] (fun _ => "SUB ".toList ++ register8 z)) ∧
  (∀ z, z ≠ 6 → IndexRule (fun ir => .passSbcR ir z) [op 2 3 z] (fun _ => "SBC A,".toList ++ register8 z)) ∧
  (∀ z, z ≠ 6 → IndexRule (fun ir => .passAndR ir z) [op 2 4 z] (fun _ => "AND ".toList ++ register8 z)) ∧
  (∀ z, z ≠ 6 → IndexRule (fun ir => .passXorR ir z) [op 2 5 z] (fun _ => "XOR ".toList ++ register8 z)) ∧
  (∀ z, z ≠ 6 → IndexRule (fun ir => .passOrR ir z) [op 2 6 z] (fun _ => "OR ".toList ++ register8 z)) ∧
  (∀ z, z ≠ 6 → IndexRule (fun ir => .passCpR ir z) [op 2 7 z] (fun _ => "CP ".toList ++ register8 z))

/-- The unprefixed forms of X = 3 that pass through a DD or FD prefix, EX DE,HL among them: the unprefixed text,
length one more. The next state is written out whole: the count of R and its bit 7 are log 23 (PRESUMED), the pulses,
the step placement and PC decisions D26 to D28 and general knowledge (log 21). -/
def Obligations.PassThroughFormsX3 : Prop :=
  (∀ y, IndexRule (fun ir => .passRetCc ir y) [op 3 y 0] (fun _ => "RET ".toList ++ condition y)) ∧
  (∀ p, p ≠ 2 → IndexRule (fun ir => .passPopRp2 ir p) [op 3 (ofPQ p 0) 1] (fun _ => "POP ".toList
    ++ registerPair16Alt p)) ∧
  IndexRule (fun ir => .passRet ir) [0xC9] (fun _ => "RET".toList) ∧
  IndexRule (fun ir => .passExx ir) [0xD9] (fun _ => "EXX".toList) ∧
  (∀ y nn, IndexRule (fun ir => .passJpCcNn ir y nn) [op 3 y 2, lo8 nn, hi8 nn] (fun _ => "JP ".toList
    ++ condition y ++ ",".toList ++ hex4 nn)) ∧
  (∀ nn, IndexRule (fun ir => .passJpNn ir nn) [0xC3, lo8 nn, hi8 nn] (fun _ => "JP ".toList ++ hex4 nn)) ∧
  (∀ n, IndexRule (fun ir => .passOutNA ir n) [0xD3, n] (fun _ => "OUT (".toList ++ hex2 n ++ "),A".toList)) ∧
  (∀ n, IndexRule (fun ir => .passInAN ir n) [0xDB, n] (fun _ => "IN A,(".toList ++ hex2 n ++ ")".toList)) ∧
  IndexRule (fun ir => .passExDeHl ir) [0xEB] (fun _ => "EX DE,HL".toList) ∧
  IndexRule (fun ir => .passDi ir) [0xF3] (fun _ => "DI".toList) ∧
  IndexRule (fun ir => .passEi ir) [0xFB] (fun _ => "EI".toList) ∧
  (∀ y nn, IndexRule (fun ir => .passCallCcNn ir y nn) [op 3 y 4, lo8 nn, hi8 nn] (fun _ => "CALL ".toList
    ++ condition y ++ ",".toList ++ hex4 nn)) ∧
  (∀ p, p ≠ 2 → IndexRule (fun ir => .passPushRp2 ir p) [op 3 (ofPQ p 0) 5] (fun _ => "PUSH ".toList
    ++ registerPair16Alt p)) ∧
  (∀ nn, IndexRule (fun ir => .passCallNn ir nn) [0xCD, lo8 nn, hi8 nn] (fun _ => "CALL ".toList ++ hex4 nn)) ∧
  (∀ n, IndexRule (fun ir => .passAddN ir n) [0xC6, n] (fun _ => "ADD A,".toList ++ hex2 n)) ∧
  (∀ n, IndexRule (fun ir => .passAdcN ir n) [0xCE, n] (fun _ => "ADC A,".toList ++ hex2 n)) ∧
  (∀ n, IndexRule (fun ir => .passSubN ir n) [0xD6, n] (fun _ => "SUB ".toList ++ hex2 n)) ∧
  (∀ n, IndexRule (fun ir => .passSbcN ir n) [0xDE, n] (fun _ => "SBC A,".toList ++ hex2 n)) ∧
  (∀ n, IndexRule (fun ir => .passAndN ir n) [0xE6, n] (fun _ => "AND ".toList ++ hex2 n)) ∧
  (∀ n, IndexRule (fun ir => .passXorN ir n) [0xEE, n] (fun _ => "XOR ".toList ++ hex2 n)) ∧
  (∀ n, IndexRule (fun ir => .passOrN ir n) [0xF6, n] (fun _ => "OR ".toList ++ hex2 n)) ∧
  (∀ n, IndexRule (fun ir => .passCpN ir n) [0xFE, n] (fun _ => "CP ".toList ++ hex2 n)) ∧
  (∀ y, IndexRule (fun ir => .passRst ir y) [op 3 y 7] (fun _ => "RST ".toList ++ hex2 (BitVec.ofNat 8 (y.val * 8))))

/-- SLL m; and after DD CB d and FD CB d the rotates, BIT, RES and SET on (I+d) where Z = 6 and on the register
otherwise: the displacement stands before the operation byte, length 4, four reads. The next state is written out
whole: the count of R and its bit 7 are log 23 (PRESUMED), the pulses, the step placement and PC decisions D26 to D28
and general knowledge (log 21). -/
def Obligations.IndexCbForms : Prop :=
  (∀ z, CbRule (.cbSll z) (op 0 6 z) ("SLL ".toList ++ register8 z)) ∧
  (∀ d z, IndexCbRule (fun ir => .xcbRlc ir d z) d (op 0 0 z) (fun I => "RLC ".toList ++
    (if z = 6 then "(".toList ++ I ++ "+".toList ++ hex2 d ++ ")".toList else register8 z))) ∧
  (∀ d z, IndexCbRule (fun ir => .xcbRrc ir d z) d (op 0 1 z) (fun I => "RRC ".toList ++
    (if z = 6 then "(".toList ++ I ++ "+".toList ++ hex2 d ++ ")".toList else register8 z))) ∧
  (∀ d z, IndexCbRule (fun ir => .xcbRl ir d z) d (op 0 2 z) (fun I => "RL ".toList ++
    (if z = 6 then "(".toList ++ I ++ "+".toList ++ hex2 d ++ ")".toList else register8 z))) ∧
  (∀ d z, IndexCbRule (fun ir => .xcbRr ir d z) d (op 0 3 z) (fun I => "RR ".toList ++
    (if z = 6 then "(".toList ++ I ++ "+".toList ++ hex2 d ++ ")".toList else register8 z))) ∧
  (∀ d z, IndexCbRule (fun ir => .xcbSla ir d z) d (op 0 4 z) (fun I => "SLA ".toList ++
    (if z = 6 then "(".toList ++ I ++ "+".toList ++ hex2 d ++ ")".toList else register8 z))) ∧
  (∀ d z, IndexCbRule (fun ir => .xcbSra ir d z) d (op 0 5 z) (fun I => "SRA ".toList ++
    (if z = 6 then "(".toList ++ I ++ "+".toList ++ hex2 d ++ ")".toList else register8 z))) ∧
  (∀ d z, IndexCbRule (fun ir => .xcbSll ir d z) d (op 0 6 z) (fun I => "SLL ".toList ++
    (if z = 6 then "(".toList ++ I ++ "+".toList ++ hex2 d ++ ")".toList else register8 z))) ∧
  (∀ d z, IndexCbRule (fun ir => .xcbSrl ir d z) d (op 0 7 z) (fun I => "SRL ".toList ++
    (if z = 6 then "(".toList ++ I ++ "+".toList ++ hex2 d ++ ")".toList else register8 z))) ∧
  (∀ d y z, IndexCbRule (fun ir => .xcbBit ir d y z) d (op 1 y z) (fun I => "BIT ".toList ++ dec1 y
    ++ ",".toList ++ (if z = 6 then "(".toList ++ I ++ "+".toList ++ hex2 d ++ ")".toList else register8 z))) ∧
  (∀ d y z, IndexCbRule (fun ir => .xcbRes ir d y z) d (op 2 y z) (fun I => "RES ".toList ++ dec1 y
    ++ ",".toList ++ (if z = 6 then "(".toList ++ I ++ "+".toList ++ hex2 d ++ ")".toList else register8 z))) ∧
  (∀ d y z, IndexCbRule (fun ir => .xcbSet ir d y z) d (op 3 y z) (fun I => "SET ".toList ++ dec1 y
    ++ ",".toList ++ (if z = 6 then "(".toList ++ I ++ "+".toList ++ hex2 d ++ ")".toList else register8 z)))

/-! ## Reset, fields, tables, encodings -/

/-- Controller power-on, with any RAM contents: the values the spec gives (10_state.md section 7;
70_reset_and_hazards.md section 1). Nothing is said of the registers whose values the model chose (logs 2 and 3). -/
def Obligations.PowerOnState : Prop :=
  (∀ ram : Memory, (State.powerOn ram).clk = .low ∧ (State.powerOn ram).ramOvr = .released ∧
    (State.powerOn ram).dbusDir = .inPullup ∧ (State.powerOn ram).rst = Config.resetLineAtPowerOn ∧
    (State.powerOn ram).sync = .unknown ∧ (State.powerOn ram).pinTrace = [] ∧ (State.powerOn ram).pulseTotal = 0 ∧
    (State.powerOn ram).memory = ram ∧ (State.powerOn ram).returned = none) ∧
  State.reset = State.powerOn []

/-- The invariant holds at controller power-on with any RAM contents in canonical form, and so at `State.reset`. -/
def Obligations.PowerOnInvariant : Prop :=
  (∀ ram : Memory, ram.wf = true → StateInv (State.powerOn ram)) ∧ StateInv State.reset

/-- R130: the tuple of every byte, bit for bit, the byte from its tuple, and the rule's own examples. -/
def Obligations.FieldsOfByte : Prop :=
  (∀ b : Byte, (fields b).x.val = (b.extractLsb' 6 2).toNat ∧ (fields b).y.val = (b.extractLsb' 3 3).toNat ∧
    (fields b).z.val = (b.extractLsb' 0 3).toNat ∧ (fields b).p.val = (b.extractLsb' 4 2).toNat ∧
    (fields b).q.val = (b.extractLsb' 3 1).toNat ∧
    b.toNat = (fields b).x.val * 64 + (fields b).y.val * 8 + (fields b).z.val ∧
    op (fields b).x (fields b).y (fields b).z = b) ∧
  (fields 0x00 = ⟨0, 0, 0⟩ ∧ fields 0xFF = ⟨3, 7, 7⟩ ∧ fields 0x21 = ⟨0, 4, 1⟩ ∧ fields 0x47 = ⟨1, 0, 7⟩ ∧
    fields 0x76 = ⟨1, 6, 6⟩ ∧ fields 0xCB = ⟨3, 1, 3⟩ ∧ fields 0xED = ⟨3, 5, 5⟩ ∧ fields 0xDD = ⟨3, 3, 5⟩ ∧
    fields 0xFD = ⟨3, 7, 5⟩)

/-- Every entry of every opcode table (42_tables_and_bitfields.md section 2; the entries are general knowledge, G2)
and the number formats (00_scope.md section 4, decision D5): two upper-case hexadecimal digits that tell every two
bytes apart. -/
def Obligations.TableEntries : Prop :=
  (List.ofFn register8 = ["B", "C", "D", "E", "H", "L", "(HL)", "A"].map String.toList ∧
    List.ofFn registerPair16 = ["BC", "DE", "HL", "SP"].map String.toList ∧
    List.ofFn registerPair16Alt = ["BC", "DE", "HL", "AF"].map String.toList ∧
    List.ofFn condition = ["NZ", "Z", "NC", "C", "PO", "PE", "P", "M"].map String.toList ∧
    List.ofFn aluOp = ["ADD A,", "ADC A,", "SUB ", "SBC A,", "AND ", "XOR ", "OR ", "CP "].map String.toList ∧
    List.ofFn rotateOp = ["RLC", "RRC", "RL", "RR", "SLA", "SRA", "SLL", "SRL"].map String.toList ∧
    List.ofFn accumulatorFlagOp =
      ["RLCA", "RRCA", "RLA", "RRA", "DAA", "CPL", "SCF", "CCF"].map String.toList ∧
    List.ofFn (blockOp 0) = ["LDI", "CPI", "INI", "OUTI"].map String.toList ∧
    List.ofFn (blockOp 1) = ["LDD", "CPD", "IND", "OUTD"].map String.toList ∧
    List.ofFn (blockOp 2) = ["LDIR", "CPIR", "INIR", "OTIR"].map String.toList ∧
    List.ofFn (blockOp 3) = ["LDDR", "CPDR", "INDR", "OTDR"].map String.toList ∧
    List.ofFn interruptMode = ["0", "0/1", "1", "2"].map String.toList ∧
    List.ofFn bitOp = ["BIT", "RES", "SET"].map String.toList ∧
    List.ofFn indirectStore = ["LD (BC),A", "LD (DE),A", "LD (nn),HL", "LD (nn),A"].map String.toList ∧
    List.ofFn indirectLoad = ["LD A,(BC)", "LD A,(DE)", "LD HL,(nn)", "LD A,(nn)"].map String.toList ∧
    indexName .ix = "IX".toList ∧ indexName .iy = "IY".toList) ∧
  (∀ v : Byte, (hex2 v).length = 2 ∧ ∀ c ∈ hex2 v, c ∈ "0123456789ABCDEF".toList) ∧
  (∀ v w : Byte, hex2 v = hex2 w → v = w) ∧
  (hex2 0x05 = "05".toList ∧ hex2 0xFB = "FB".toList ∧ hex4 0x1234 = "1234".toList ∧ hex4 0x0007 = "0007".toList ∧
    dec1 7 = "7".toList)

/-- A sanity statement: words written out from the encodings of the spec, one or more of every family, decode to the
instruction they stand for (30_encoding.md sections 1 to 3; 95_test_vectors.md). -/
def Obligations.SampleWordsDecode : Prop :=
  decodeBytes [0x00] = .ok (.nop, []) ∧
  decodeBytes [0x21, 0x34, 0x12] = .ok (.ldRpNn 2 0x1234, []) ∧
  decodeBytes [0x10, 0xFE] = .ok (.djnz 0xFE, []) ∧
  decodeBytes [0x76] = .ok (.halt, []) ∧
  decodeBytes [0x7E] = .ok (.ldRM 7, []) ∧
  decodeBytes [0x96] = .ok (.subM, []) ∧
  decodeBytes [0xC2, 0x00, 0x10] = .ok (.jpCcNn 0 0x1000, []) ∧
  decodeBytes [0xF5] = .ok (.pushRp2 3, []) ∧
  decodeBytes [0xCB, 0x47] = .ok (.cbBit 0 7, []) ∧
  decodeBytes [0xED, 0x43, 0x00, 0x80] = .ok (.ldNnRp 0 0x8000, []) ∧
  decodeBytes [0xED, 0xB0] = .ok (.ldir, []) ∧
  decodeBytes [0xED, 0x77] = .ok (.edNopX1 6, []) ∧
  decodeBytes [0xDD, 0xED, 0x43] = .ok (.loneEd .ix, [0xED, 0x43]) ∧
  decodeBytes [0xFD, 0x21, 0x34, 0x12] = .ok (.ldINn .iy 0x1234, []) ∧
  decodeBytes [0xDD, 0x36, 0x05, 0x12] = .ok (.ldIDN .ix 0x05 0x12, []) ∧
  decodeBytes [0xDD, 0x44] = .ok (.passLdRR .ix 0 4, []) ∧
  decodeBytes [0xFD, 0xCB, 0x05, 0x46] = .ok (.xcbBit .iy 0x05 0 6, []) ∧
  decodeBytes [] = .error .noBytes ∧ decodeBytes [0xED, 0x43, 0x00] = .error .truncated ∧
  decodeBytes [0xDD] = .error .truncated

/-- Decode and encode agree, for every instruction with every operand its encoding admits and whatever bytes follow
(the bytes a lone prefix looks at stay unread). -/
def Obligations.DecodeOfEncode : Prop :=
  ∀ (i : Instr) (rest : List Byte), wellFormed i = true →
    decodeBytes (encode i ++ lookahead i ++ rest) = .ok (i, lookahead i ++ rest)

/-- Encode and decode agree: what the decoder reads is well formed and encodes back to the very bytes it consumed, so
no bit of an encoding is dropped. -/
def Obligations.EncodeOfDecode : Prop :=
  ∀ (bytes rest : List Byte) (i : Instr), decodeBytes bytes = .ok (i, rest) →
    wellFormed i = true ∧ encode i ++ rest = bytes

/-- R92: every sequence of bytes decodes, to a text that is not empty and a length in 1..4; no encoding is illegal. -/
def Obligations.DecodeIsTotal : Prop :=
  ∀ bytes : List Byte, 4 ≤ bytes.length →
    ∃ (i : Instr) (len : Nat), decodeBytes bytes = .ok (i, bytes.drop len) ∧ 1 ≤ len ∧ len ≤ 4 ∧
      ∀ s, Ready s → ∃ t d, exec i s = .next t ∧ t.returned = some (.decoded d) ∧ d.len = len ∧ d.text ≠ []

/-- A decode depends only on the bytes it reads: `readsOf` of them, from the first on (30_encoding.md sections 1 and
2; the number of reads is decision D22). -/
def Obligations.DecodeReadsOnlyItsBytes : Prop :=
  ∀ b0 b1 b2 b3 c1 c2 c3 : Byte, (2 ≤ readsOf b0 b1 → c1 = b1) → (3 ≤ readsOf b0 b1 → c2 = b2) →
    (4 ≤ readsOf b0 b1 → c3 = b3) → decode b0 c1 c2 c3 = decode b0 b1 b2 b3

/-! ## A step, and a decode of what stands in memory -/

/-- A step with no call pending runs the instruction whose bytes stand at the cursor; a pending `disassembleOne(A)`
runs the one at `A`; every other pending call is run to completion, the byte or word of a read left in `returned`.
Whatever the call, it is taken off the queue, and nothing else is added. -/
def Obligations.StepRunsDecodedInstruction : Prop :=
  ∀ (s : State) (later : List HostCall),
    (∀ (i : Instr) (rest : List Byte), s.sync = .boundary → s.calls = [] →
      decodeBytes [targetByte s 0, targetByte s 1, targetByte s 2, targetByte s 3] = .ok (i, rest) →
      step s = exec i s) ∧
    (∀ (A : Word) (i : Instr) (rest : List Byte), s.sync = .boundary → s.calls = .disassembleOne A :: later →
      decodeBytes [s.memory.read A.toNat, s.memory.read (A + 1).toNat, s.memory.read (A + 2).toNat,
        s.memory.read (A + 3).toNat] = .ok (i, rest) →
      step s = exec i { s with calls := later, pc := A }) ∧
    (s.calls = .resetCpu :: later → step s = resetCpu { s with calls := later }) ∧
    (∀ v, s.calls = .loadIndexRegister v :: later → step s = loadIndexRegister v { s with calls := later }) ∧
    (∀ a v, s.calls = .writeByte a v :: later → step s = writeByte a v { s with calls := later }) ∧
    (∀ a, s.calls = .readByte a :: later → step s = andThen (readByte a { s with calls := later }) fun got =>
      .next { got.2 with returned := some (.byte got.1) }) ∧
    (∀ a, s.calls = .readWord a :: later → step s = andThen (readWord a { s with calls := later }) fun got =>
      .next { got.2 with returned := some (.word got.1) }) ∧
    (∀ busOp, s.calls = .primitive busOp :: later → step s = directPrimitive busOp { s with calls := later }) ∧
    (∀ c t, s.calls = c :: later → step s = .next t → t.calls = later) ∧
    ∀ t, s.calls = [] → step s = .next t → t.calls = []

/-- The bytes a decode uses are the bytes its reads return, in an open session and desynced. -/
def Obligations.ReadsReturnTheDecodedBytes : Prop :=
  ∀ (s : State) (n : Nat), Ready s ∨ Desynced s →
    ∃ t, readBytes n s.pc s = .next ((List.range n).map (fetchedByte s), t) ∧
      t.readTrace = s.readTrace ++ (List.range n).map fun k => s.pc + BitVec.ofNat 16 k

/-- R364, the output contract of `disassembleOne`, for every content of memory and every address. -/
def Obligations.OutputContract : Prop :=
  ∀ (s : State) (A : Word), Ready s →
    ∃ t d, disassembleOne A s = .next t ∧ t.returned = some (.decoded d) ∧
      t.pc = A + BitVec.ofNat 16 d.len ∧ d.newAddress = t.pc ∧ d.text ≠ [] ∧ 1 ≤ d.len ∧ d.len ≤ 4 ∧
      (∀ c ∈ d.text, c.isLower = false) ∧ (d.pfx = .cb → d.len = 2) ∧
      (d.pfx = .ed → ((fields (s.memory.read (A + 1).toNat)).x = 0 ∨ (fields (s.memory.read (A + 1).toNat)).x = 3) →
        d.text = "NOP".toList) ∧
      2 ≤ d.text.length ∧ d.text.length ≤ 13

/-- R360: the prefix class of a decode is decided by the byte at `A` alone, and that byte is read once. -/
def Obligations.PrefixClassification : Prop :=
  ∀ (s : State) (A : Word), Ready s →
    ∃ t d n, disassembleOne A s = .next t ∧ t.returned = some (.decoded d) ∧
      d.pfx = (if s.memory.read A.toNat = 0xCB then .cb
        else if s.memory.read A.toNat = 0xED then .ed
        else if s.memory.read A.toNat = 0xDD then .ddfd .ix
        else if s.memory.read A.toNat = 0xFD then .ddfd .iy
        else .unprefixed) ∧
      n ≤ 3 ∧ t.readTrace = s.readTrace ++ A :: (List.range n).map fun k => A + BitVec.ofNat 16 (k + 1)

/-- R366: the side effects of a decode, `r` being the length, or 2 for a lone prefix. -/
def Obligations.DecodeSideEffects : Prop :=
  ∀ (s : State) (A : Word), Ready s →
    ∃ t d r, disassembleOne A s = .next t ∧ t.returned = some (.decoded d) ∧
      r = (if s.memory.read A.toNat ∈ [0xDD, 0xFD] ∧ s.memory.read (A + 1).toNat ∈ [0xDD, 0xED, 0xFD] then 2
        else d.len) ∧
      t.memory = s.memory ∧ t.z80HL = A + BitVec.ofNat 16 (r - 1) ∧
      t.z80A = s.memory.read (A + BitVec.ofNat 16 (r - 1)).toNat ∧
      t.z80PC = s.z80PC + BitVec.ofNat 16 (4 * r) ∧ t.pulseTotal = s.pulseTotal + 17 * r ∧
      t.ramOvr = .released ∧ t.dbusDir = .inPullup ∧ t.clk = .low ∧ t.sync = .boundary

/-- R365: what a decode returns is a function of `A` and of the at most four bytes there alone. -/
def Obligations.DecodeIsDeterministic : Prop :=
  ∀ (s s' : State) (A : Word), Ready s → Ready s' →
    (∀ k, k < 4 → s.memory.read (A + BitVec.ofNat 16 k).toNat = s'.memory.read (A + BitVec.ofNat 16 k).toNat) →
    ∃ t t', disassembleOne A s = .next t ∧ disassembleOne A s' = .next t' ∧ t.returned = t'.returned ∧ t.pc = t'.pc

/-- R363: a listing of `m + n` instructions is a listing of `m` and then one of `n` from the address the first
returned; a listing of none is empty and returns its start; a listing of one is `disassembleOne`. -/
def Obligations.ListingComposes : Prop :=
  ∀ (s : State) (A : Word), Ready s →
    disassembleN A 0 s = .next (([], A), s) ∧
    (∀ n, ∃ out a t, disassembleN A n s = .next ((out, a), t) ∧ out.length = n ∧ Ready t ∧ t.memory = s.memory) ∧
    (∀ m n, disassembleN A (m + n) s = andThen (disassembleN A m s) fun first =>
      andThen (disassembleN first.1.2 n first.2) fun second =>
        .next ((first.1.1 ++ second.1.1, second.1.2), second.2)) ∧
    (∃ t d, disassembleOne A s = .next t ∧ t.returned = some (.decoded d) ∧
      disassembleN A 1 s = .next (([(A, d.text)], d.newAddress), t))

/-- Where a decode completes and where it stops, for every instruction and every state: it completes in a session and
also desynced, whatever a broken caller left on the override and the bus, and ends with the pins at rest; it stops on
a bus fight, with the clock HIGH, and, at a Boundary, with the override asserted, as the primitives of its first read
require. -/
def Obligations.WhenADecodeStops : Prop :=
  ∀ (i : Instr) (s : State),
    (Ready s ∨ Desynced s → ∃ t, exec i s = .next t ∧ AtRest t) ∧
    (s.dbusDir = .out → s.ramOvr = .released → exec i s = .fault .busFight) ∧
    (¬(s.dbusDir = .out ∧ s.ramOvr = .released) → s.clk = .high → exec i s = .refused .clockNotLow) ∧
    (s.clk = .low → s.ramOvr = .asserted → s.sync = .boundary → exec i s = .refused .overrideAlreadyAsserted)

/-- The frame of every instruction: when `exec` gives a next state, the clock is as before and the override and the
bus are at rest, the reset line, `sync` and the pending calls are untouched, the traces only grow, and in an open
session (in which the pins were at rest before) every byte of memory, F, the interrupt state, the count of free values
and the Z80's place at its Boundary are unchanged. What changes is HL, A, PC, R, the cursor, `dbus_out`, the two
traces, the pulse total, what was returned, and that HL has been loaded. -/
def Obligations.DecodeFrame : Prop :=
  ∀ (i : Instr) (s t : State), exec i s = .next t →
    t.clk = s.clk ∧ t.rst = s.rst ∧ t.ramOvr = .released ∧ t.dbusDir = .inPullup ∧ t.sync = s.sync ∧
    t.calls = s.calls ∧ s.pinTrace <+: t.pinTrace ∧ s.readTrace <+: t.readTrace ∧
    (s.sync = .boundary → s.ramOvr = .released ∧ s.dbusDir = .inPullup ∧
      (∀ a, t.memory.read a = s.memory.read a) ∧ t.memory = s.memory ∧ t.z80F = s.z80F ∧
      t.z80IntEnable = s.z80IntEnable ∧ t.z80IntMode = s.z80IntMode ∧ t.freeTick = s.freeTick ∧
      t.z80Place = s.z80Place ∧ t.hlLoaded = true) ∧
    (s.sync ≠ .boundary → t.hlLoaded = s.hlLoaded)

/-- The bits of a table word, placed where the next step fetches, are the instruction that step runs, from any state
with the pins as reset leaves them or not. Placing them changes nothing but the pins, `sync` and the Z80's place (a
session is open, the Z80 at the start of an opcode fetch), the queue (empty) and at most the four bytes of memory at
the cursor. -/
def Obligations.PlacedWordRuns : Prop :=
  ∀ (s : State) (nbits w : Nat) (i : Instr), decodeTableWord nbits w = some i →
    step (s.withFetchWord nbits w) = exec i (s.withFetchWord nbits w) ∧
    s.withFetchWord nbits w = { s with
      clk := .low, rst := .released, ramOvr := .released, dbusDir := .inPullup, sync := .boundary, calls := []
      z80Place := .cycle (.fetch 0)
      memory := (s.withFetchWord nbits w).memory } ∧
    ∀ a : Nat, (∀ k, k < 4 → a ≠ (s.pc + BitVec.ofNat 16 k).toNat) →
      (s.withFetchWord nbits w).memory.read a = s.memory.read a

/-! ## The sequencer -/

/-- `resetCpu` from every operation boundary, whatever `sync` is: its trace and 8 pulses, reset released, a Boundary
at address 0, maskable interrupts disabled and interrupt mode 0, HL, A, F and R free values, nothing loaded, the Z80
at the start of an opcode fetch, everything else as it was but `dbus_out`, which may hold any byte (41_channel_ops.md
section 1; the Boundary after it is decision D29, the address 0 and the interrupt state general knowledge). -/
def Obligations.ResetCpuEffect : Prop :=
  ∀ s, AtRest s → ∃ v, resetCpu s = .next { s with
    rst := .released
    dbusOut := v
    sync := .boundary
    z80PC := 0x0000
    z80HL := Config.freeHL s.freeTick
    z80A := Config.freeA s.freeTick
    z80F := Config.freeF s.freeTick
    z80R := Config.freeR s.freeTick
    z80IntEnable := false
    z80IntMode := .mode0
    hlLoaded := false
    freeTick := s.freeTick + 1
    z80Place := .cycle (.fetch 0)
    pinTrace := s.pinTrace ++ resetEvents
    pulseTotal := s.pulseTotal + 8 }

/-- What `resetCpu` does not reset: memory, the override, the data bus, the caller's cursor; and it requires the
override released and the data bus an input (70_reset_and_hazards.md section 1). That it is refused with the override
left asserted is U2 and the model's choice, log 11; that it is a bus fight with the bus driven and no override is U3
and the model's choice, log 18. -/
def Obligations.ResetCpuLeavesAlone : Prop :=
  ∀ s, (∀ t, resetCpu s = .next t →
      t.memory = s.memory ∧ t.ramOvr = s.ramOvr ∧ t.dbusDir = s.dbusDir ∧ t.pc = s.pc ∧
      s.ramOvr = .released ∧ s.dbusDir = .inPullup) ∧
    (s.ramOvr = .asserted → resetCpu s = .refused .overrideLeftAsserted) ∧
    (s.ramOvr = .released → s.dbusDir = .out → resetCpu s = .fault .busFight)

/-- `loadIndexRegister` in an open session: the trace of its schedule, 10 pulses, HL the value, PC three and R one
further, and nothing else but `dbus_out` (41_channel_ops.md sections 1 and 2; the step placement in the pin trace is
decision D27, the pulse count decision D26 and general knowledge, log 21; seven bits of R, log 23). -/
def Obligations.LoadIndexRegisterEffect : Prop :=
  ∀ s v, Ready s → ∃ d, loadIndexRegister v s = .next { s with
    dbusOut := d
    pinTrace := s.pinTrace ++ loadEvents v
    pulseTotal := s.pulseTotal + 10
    z80HL := v
    z80PC := s.z80PC + 3
    z80R := advanceR 1 s.z80R
    hlLoaded := true }

/-- `readByte` in an open session: the byte of memory, the trace of its schedule, 17 pulses, HL the address, A the
byte, PC four and R two further; memory, F and the interrupt state unchanged (41_channel_ops.md sections 1 and 2). The
step placement in the pin trace, its LD HL,nn part included, is decision D27, the sampling point D28, the 17 pulses
decision D26 and general knowledge (log 21), the seven bits of R log 23, the cumulative read trace log 13. -/
def Obligations.ReadByteEffect : Prop :=
  ∀ s a, Ready s → ∃ d, readByte a s = .next (s.memory.read a.toNat, { s with
    dbusOut := d
    pinTrace := s.pinTrace ++ readEvents a (s.memory.read a.toNat)
    pulseTotal := s.pulseTotal + 17
    z80HL := a
    z80A := s.memory.read a.toNat
    z80PC := s.z80PC + 4
    z80R := advanceR 2 s.z80R
    hlLoaded := true
    readTrace := s.readTrace ++ [a] })

/-- `writeByte` in an open session: refused unless HL is loaded and holds the address (decision D24); else the store
goes to HL and nowhere else, HL advances modulo 2^16, PC is three and R two further, 16 pulses, A and F unchanged
(41_channel_ops.md sections 1 and 2). The refusals are the model's choice (log 11; U4), the step placement in the pin
trace, the value driven in the operand read cycle, is decision D27, the 16 pulses decision D26 and general knowledge
(log 21), the seven bits of R log 23. -/
def Obligations.WriteByteEffect : Prop :=
  ∀ s a v, Ready s →
    (s.hlLoaded = false → writeByte a v s = .refused .cursorNotLoaded) ∧
    (s.hlLoaded = true → s.z80HL ≠ a → writeByte a v s = .refused .cursorMismatch) ∧
    (s.hlLoaded = true → s.z80HL = a → ∃ (m : Memory) (d : Byte),
      (m.read s.z80HL.toNat = v ∧ ∀ b, b ≠ s.z80HL.toNat → m.read b = s.memory.read b) ∧
      writeByte a v s = .next { s with
        dbusOut := d
        pinTrace := s.pinTrace ++ writeEvents v
        pulseTotal := s.pulseTotal + 16
        memory := m
        z80HL := s.z80HL + 1
        z80PC := s.z80PC + 3
        z80R := advanceR 2 s.z80R })

/-- `readWord` reads the address, then the next one, and the first byte is the more significant; the swap of the
result is the Z80's little-endian word (70_reset_and_hazards.md section 3). The pin trace of the two reads (step
placement and sampling point) is decisions D27 and D28, their 34 pulses are decision D26 and general knowledge (log
21), and the kept read trace is log 13. -/
def Obligations.ReadWordOrder : Prop :=
  ∀ s a, Ready s → ∃ w t, readWord a s = .next (w, t) ∧
    w.toNat = (s.memory.read a.toNat).toNat * 256 + (s.memory.read (a + 1).toNat).toNat ∧
    (swap16 w).toNat = (s.memory.read (a + 1).toNat).toNat * 256 + (s.memory.read a.toNat).toNat ∧
    t.readTrace = s.readTrace ++ [a, a + 1] ∧
    t.pinTrace = s.pinTrace ++ readEvents a (s.memory.read a.toNat) ++
      readEvents (a + 1) (s.memory.read (a + 1).toNat) ∧
    t.pulseTotal = s.pulseTotal + 34 ∧ t.z80HL = a + 1 ∧ t.memory = s.memory ∧ Ready t

/-- R66 and the round trip of a write and a read: a byte written is seen by the next read and by every later decode
that reads that address, with nothing in between; every other byte is as before. -/
def Obligations.WriteIsSeen : Prop :=
  ∀ s a v, Ready s → s.hlLoaded = true → s.z80HL = a →
    ∃ t, writeByte a v s = .next t ∧ Ready t ∧
      (∃ u, readByte a t = .next (v, u) ∧ u.memory = t.memory) ∧
      (∀ b, b ≠ a → ∃ u, readByte b t = .next (s.memory.read b.toNat, u) ∧ u.memory = t.memory) ∧
      (∀ (A : Word) (k : Nat), fetchedByte { t with pc := A } k =
        if A + BitVec.ofNat 16 k = a then v else fetchedByte { s with pc := A } k) ∧
      ∀ A : Word, ∃ u, disassembleOne A t = .next u ∧ u.memory = t.memory ∧
        ∀ n, ∃ x, readBytes n A t = .next ((List.range n).map (fetchedByte { t with pc := A }), x)

/-- Every read and every decode leaves HL at the last address it read, every write advances it, and a sequential fill
needs no reload (70_reset_and_hazards.md section 3). A write after a read elsewhere is refused: the hardware would
store at HL without a word, and the refusal is decision D24 and the model's choice, log 11. -/
def Obligations.ImplicitCursor : Prop :=
  ∀ s, Ready s →
    (∀ b, ∃ t, readByte b s = .next (s.memory.read b.toNat, t) ∧ t.z80HL = b ∧
      ∀ a v, b ≠ a → writeByte a v t = .refused .cursorMismatch) ∧
    (∀ b, ∃ w t, readWord b s = .next (w, t) ∧ t.z80HL = b + 1) ∧
    (∀ b, ∃ t, disassembleOne b s = .next t ∧ t.readTrace.getLast? = some t.z80HL) ∧
    (∀ a v t, writeByte a v s = .next t → t.z80HL = s.z80HL + 1) ∧
    ∀ a v0 v1, ∃ t, andThen (loadIndexRegister a s) (fun s1 => andThen (writeByte a v0 s1) (writeByte (a + 1) v1)) =
      .next t ∧ t.memory.read a.toNat = v0 ∧ t.memory.read (a + 1).toNat = v1 ∧ t.z80HL = a + 2

/-- R394: `resetCpu` opens a session from every operation boundary; in it every read, load and decode completes and
leaves it open; and a `writeByte(a, v)` completes directly after `loadIndexRegister(a)`, `readByte(a)` or
`writeByte(a-1, _)`. -/
def Obligations.SessionOrder : Prop :=
  (∀ s, AtRest s → ∃ t, resetCpu s = .next t ∧ Ready t) ∧
  ∀ s, Ready s →
    (∀ a, ∃ t, loadIndexRegister a s = .next t ∧ Ready t ∧ ∀ v, ∃ u, writeByte a v t = .next u ∧ Ready u) ∧
    (∀ a v u, writeByte a v s = .next u → Ready u ∧ ∀ v', ∃ x, writeByte (a + 1) v' u = .next x ∧ Ready x) ∧
    (∀ a, ∃ v t, readByte a s = .next (v, t) ∧ Ready t ∧ ∀ v', ∃ u, writeByte a v' t = .next u ∧ Ready u) ∧
    (∀ a, ∃ w t, readWord a s = .next (w, t) ∧ Ready t) ∧
    ∀ a, ∃ t, disassembleOne a s = .next t ∧ Ready t

/-- While desynced, whatever a broken caller left on the override and the bus, every operation but `resetCpu` still
completes, with its exact pulses, leaves the pins at rest and `sync` as it was; a decode returns within the whole
output contract (93_implementation_defined.md U1; the pulse counts are decision D26 and general knowledge, log 21, the
pin traces decisions D27 and D28). Of what is read and of what memory and registers then hold nothing is said. -/
def Obligations.DesyncedOperationsComplete : Prop :=
  ∀ s, Desynced s →
    (∀ v, ∃ t, loadIndexRegister v s = .next t ∧ AtRest t ∧ t.sync = s.sync ∧
      t.pulseTotal = s.pulseTotal + 10 ∧ t.pinTrace = s.pinTrace ++ loadEvents v) ∧
    (∀ a, ∃ v t, readByte a s = .next (v, t) ∧ AtRest t ∧ t.sync = s.sync ∧
      t.pulseTotal = s.pulseTotal + 17 ∧ t.pinTrace = s.pinTrace ++ readEvents a v) ∧
    (∀ a, ∃ v w t, readWord a s = .next (wordOf v w, t) ∧ AtRest t ∧ t.sync = s.sync ∧
      t.pulseTotal = s.pulseTotal + 34 ∧ t.pinTrace = s.pinTrace ++ readEvents a v ++ readEvents (a + 1) w) ∧
    (∀ a v, ∃ t, writeByte a v s = .next t ∧ AtRest t ∧ t.sync = s.sync ∧
      t.pulseTotal = s.pulseTotal + 16 ∧ t.pinTrace = s.pinTrace ++ writeEvents v) ∧
    ∀ a, ∃ t d r, disassembleOne a s = .next t ∧ AtRest t ∧ t.sync = s.sync ∧
      t.pulseTotal = s.pulseTotal + 17 * r ∧ 1 ≤ r ∧ r ≤ 4 ∧ t.returned = some (.decoded d) ∧
      d.ok ∧ t.pc = a + BitVec.ofNat 16 d.len ∧ d.newAddress = t.pc

/-- The effect of the bus, override and reset-release primitives where their `require` holds, and what they do where
it does not, in every state without a bus fight: driving without the override and releasing while driving are bus
fights; asserting or releasing twice is refused at a Boundary and leaves the line as it is off a Boundary (the model's
choice, log 11). -/
def Obligations.PrimitiveEffects : Prop :=
  ∀ (bus : Byte) (s : State), (s.dbusDir = .out → s.ramOvr = .asserted) →
    (∀ v, (s.ramOvr = .asserted → runOp bus (.setDataBusOutput v) s =
        .next { s with dbusDir := .out, dbusOut := v, pinTrace := s.pinTrace ++ [.driveData v] }) ∧
      (s.ramOvr = .released → runOp bus (.setDataBusOutput v) s = .fault .busFight)) ∧
    runOp bus .setDataBusInput s = .next { s with dbusDir := .inPullup, pinTrace := s.pinTrace ++ [.releaseData] } ∧
    (s.ramOvr = .released ∨ s.sync ≠ .boundary → runOp bus .assertRamOverride s =
      .next { s with ramOvr := .asserted, pinTrace := s.pinTrace ++ [.ovrAssert] }) ∧
    (s.ramOvr = .asserted → s.sync = .boundary →
      runOp bus .assertRamOverride s = .refused .overrideAlreadyAsserted) ∧
    (s.ramOvr = .asserted ∨ s.sync ≠ .boundary → s.dbusDir = .inPullup → runOp bus .releaseRamOverride s =
      .next { s with ramOvr := .released, pinTrace := s.pinTrace ++ [.ovrRelease] }) ∧
    (s.dbusDir = .out → runOp bus .releaseRamOverride s = .fault .busFight) ∧
    (s.ramOvr = .released → s.sync = .boundary →
      runOp bus .releaseRamOverride s = .refused .overrideNotAsserted) ∧
    runOp bus .releaseReset s = .next { s with rst := .released, pinTrace := s.pinTrace ++ [.rstRelease] }

/-- `pulse`, `sampleDataBus` and `assertReset` in every state without a bus fight (40_busdriver_ops.md; the last two
are decision D27): the pulses add up and `pulse(0)` does nothing; sampling is refused while driving. -/
def Obligations.PulseSampleAndReset : Prop :=
  ∀ (bus : Byte) (s : State), (s.dbusDir = .out → s.ramOvr = .asserted) →
    (∀ n, s.clk = .low → runOp bus (.pulse n) s =
      .next { s with pinTrace := s.pinTrace ++ pulses n, pulseTotal := s.pulseTotal + n }) ∧
    (∀ n, s.clk = .high → runOp bus (.pulse n) s = .refused .clockNotLow) ∧
    (s.clk = .low → runOp bus (.pulse 0) s = .next s) ∧
    (∀ m n, runSchedule bus [.pulse m, .pulse n] s = runOp bus (.pulse (m + n)) s) ∧
    (s.dbusDir = .inPullup → runOp bus .sampleDataBus s =
      .next { s with pinTrace := s.pinTrace ++ [.sample bus] }) ∧
    (s.dbusDir = .out → runOp bus .sampleDataBus s = .refused .sampleWhileDriving) ∧
    runOp bus .assertReset s = .next { s with rst := .asserted, pinTrace := s.pinTrace ++ [.rstAssert] }

/-- `dbus_dir = OUT implies ram_ovr = ASSERTED` holds before and after every primitive and every sequence of
primitives, and the schedules (their step placement is decision D27) complete under it (10_state.md section 2). A
state that breaks it has no successor (U3): that every primitive faults in it, also those called legal in any state,
is the model's choice, log 18. -/
def Obligations.BusOwnership : Prop :=
  (∀ bus schedule s t, (s.dbusDir = .out → s.ramOvr = .asserted) → runSchedule bus schedule s = .next t →
    (t.dbusDir = .out → t.ramOvr = .asserted)) ∧
  (∀ bus busOp s, s.dbusDir = .out → s.ramOvr = .released → runOp bus busOp s = .fault .busFight) ∧
  ∀ bus s v w, AtRest s → (∃ t, runSchedule bus scheduleResetCpu s = .next t) ∧
    (∃ t, runSchedule bus (scheduleLdHlNn w) s = .next t) ∧
    (∃ t, runSchedule bus scheduleLdAHl s = .next t) ∧ (∃ t, runSchedule bus (scheduleLdHlN v) s = .next t) ∧
    ∃ t, runSchedule bus scheduleIncHl s = .next t

/-- A BusDriver primitive the monitor calls directly (log 9): during a session (`rst = RELEASED`) it is a desync, with
the reset line asserted it is harmless to `sync` and to memory. No write reaches memory while the override is asserted
(10_state.md section 2). What is no pulse, and pulses that leave an opcode fetch before its third T-state, whatever
calls made the pulses before, change no Z80 register and no byte of memory, and such pulses move the Z80's place in
that fetch by their number; the last T-state of a write cycle stores the Z80's byte at HL unless the RAM is overridden
(41_channel_ops.md section 2, read as log 15 says; that PC and R do not change before the third T-state of a fetch is
the model's choice, log 24). A direct sample sees 0xFF in reset and before the first T-state of a fetch, in a fetch
after it the RAM's byte at the Z80's PC, or 0xFF if the RAM is overridden. Pulses complete and are counted, and two
calls of `pulse` in a row leave what one call of the sum leaves, or stop as it stops (40_busdriver_ops.md section 1);
what stops one is a bus fight alone, the controller driving in a write cycle (U3). An unpaired assertion or release
completes and desyncs (60_exceptions.md section 1; 70_reset_and_hazards.md section 3; 93_implementation_defined.md
U9). -/
def Obligations.DirectPrimitiveDesyncs : Prop :=
  ∀ (s : State) (later : List HostCall),
    (∀ t busOp, s.calls = .primitive busOp :: later → step s = .next t →
      (s.rst = .released → t.sync = .lost) ∧ (s.rst = .asserted → t.sync = s.sync ∧ t.memory = s.memory) ∧
      (s.ramOvr = .asserted → t.memory = s.memory) ∧
      t.pc = s.pc ∧ t.calls = later ∧ t.hlLoaded = s.hlLoaded ∧
      ((∀ n, busOp = .pulse n → n = 0 ∨ (s.rst = .released ∧ ∃ k, s.z80Place = .cycle (.fetch k) ∧ k + n ≤ 2)) →
        t.memory = s.memory ∧ t.z80HL = s.z80HL ∧ t.z80A = s.z80A ∧ t.z80PC = s.z80PC ∧ t.z80F = s.z80F ∧
        t.z80R = s.z80R ∧ t.z80IntEnable = s.z80IntEnable ∧ t.z80IntMode = s.z80IntMode) ∧
      (∀ n k, busOp = .pulse n → s.rst = .released → s.z80Place = .cycle (.fetch k) → k + n ≤ 2 →
        t.z80Place = .cycle (.fetch (k + n))) ∧
      (∀ v, busOp = .pulse 1 → s.rst = .released → s.z80Place = .cycle (.writeHl v 2) →
        t.z80Place = .cycle (.fetch 0) ∧
        ∀ a, t.memory.read a = if a = s.z80HL.toNat ∧ s.ramOvr = .released then v else s.memory.read a) ∧
      (busOp = .sampleDataBus → ∃ v, t.returned = some (.byte v) ∧ (s.rst = .asserted → v = 0xFF) ∧
        ∀ k, s.rst = .released → s.z80Place = .cycle (.fetch k) →
          v = if k ≠ 0 ∧ s.ramOvr = .released then s.memory.read s.z80PC.toNat else 0xFF)) ∧
    (∀ m n, andThen (step { s with calls := .primitive (.pulse m) :: .primitive (.pulse n) :: later }) step =
      step { s with calls := .primitive (.pulse (m + n)) :: later }) ∧
    (s.clk = .low → (s.dbusDir = .out → s.ramOvr = .asserted) →
      (∀ n, s.calls = .primitive (.pulse n) :: later →
        (∃ t, step s = .next t ∧ t.pulseTotal = s.pulseTotal + n ∧ t.pinTrace = s.pinTrace ++ pulses n) ∨
        (s.dbusDir = .out ∧ s.rst = .released ∧ step s = .fault .busFight)) ∧
      (∀ n, s.calls = .primitive (.pulse n) :: later →
        s.z80Place = .unknown ∨ (∃ k, s.z80Place = .cycle (.fetch k) ∧ k + n ≤ 2) → ∃ t, step s = .next t) ∧
      (∀ n v k, s.calls = .primitive (.pulse (n + 1)) :: later → s.rst = .released → s.dbusDir = .out →
        s.z80Place = .cycle (.writeHl v k) → step s = .fault .busFight) ∧
      (s.calls = .primitive .assertRamOverride :: later → s.rst = .released →
        ∃ t, step s = .next t ∧ t.ramOvr = .asserted ∧ t.sync = .lost) ∧
      (s.calls = .primitive .releaseRamOverride :: later → s.rst = .released → s.dbusDir = .inPullup →
        ∃ t, step s = .next t ∧ t.ramOvr = .released ∧ t.sync = .lost))

/-- The pulse contract, on the model's own schedules and operations: from every operation boundary each schedule
completes with exactly its pulses, override pairs and data-bus drives, and so does every operation in a session,
`readWord` and a decode (a lone prefix makes two reads) among them (41_channel_ops.md section 3;
70_reset_and_hazards.md section 4; the counts but those of `resetCpu` are general knowledge). -/
def Obligations.PulseTotals : Prop :=
  (∀ bus s, AtRest s →
    (∃ t, runSchedule bus scheduleResetCpu s = .next t ∧ Costs (nResetAsserted + nResetReleased) 0 [] s t) ∧
    (∀ v, ∃ t, runSchedule bus (scheduleLdHlNn v) s = .next t ∧ Costs tLdHlNn 1 [0x21, lo8 v, hi8 v] s t) ∧
    (∃ t, runSchedule bus scheduleLdAHl s = .next t ∧ Costs tLdAHl 1 [0x7E] s t) ∧
    (∀ v, ∃ t, runSchedule bus (scheduleLdHlN v) s = .next t ∧ Costs tLdHlN 1 [0x36, v] s t) ∧
    (∃ t, runSchedule bus scheduleIncHl s = .next t ∧ Costs tIncHl 1 [0x23] s t) ∧
    ∃ t, resetCpu s = .next t ∧ Costs 8 0 [] s t) ∧
  (∀ s, Ready s →
    (∀ v, ∃ t, loadIndexRegister v s = .next t ∧ Costs 10 1 [0x21, lo8 v, hi8 v] s t) ∧
    (∀ a, ∃ v t, readByte a s = .next (v, t) ∧ Costs 17 2 [0x21, lo8 a, hi8 a, 0x7E] s t) ∧
    (∀ a, ∃ w t, readWord a s = .next (w, t) ∧
      Costs 34 4 [0x21, lo8 a, hi8 a, 0x7E, 0x21, lo8 (a + 1), hi8 (a + 1), 0x7E] s t) ∧
    (∀ a v, s.hlLoaded = true → s.z80HL = a →
      ∃ t, writeByte a v s = .next t ∧ Costs 16 2 [0x36, v, 0x23] s t) ∧
    ∀ A, ∃ t d r, disassembleOne A s = .next t ∧ t.returned = some (.decoded d) ∧
      r = (if s.memory.read A.toNat ∈ [0xDD, 0xFD] ∧ s.memory.read (A + 1).toNat ∈ [0xDD, 0xED, 0xFD] then 2
        else d.len) ∧
      Costs (17 * r) (2 * r) ((List.range r).flatMap fun k =>
        [0x21, lo8 (A + BitVec.ofNat 16 k), hi8 (A + BitVec.ofNat 16 k), 0x7E]) s t) ∧
  (tLdHlNn = 10 ∧ tLdAHl = 7 ∧ tLdHlN = 10 ∧ tIncHl = 6 ∧ nResetAsserted = 6 ∧ nResetReleased = 2)

/-- The step placement checked against the machine-cycle contract R115 (general knowledge, G1): from a Boundary, the
T-state machine run on the very primitives of a schedule ends at a Boundary, with no bus fight, the pins at rest and
exactly the net effect R116 to R119, on F and R too; and any number of reads samples exactly the bytes `readBytes`
returns and leaves what it leaves. Nothing is said of `dbus_out`. -/
def Obligations.SchedulesRefineTStates : Prop :=
  ∀ s, Ready s →
    (∀ v, ∃ d, TState.runSchedule (scheduleLdHlNn v) (TState.ofState s) =
      { TState.ofState (effectLdHlNn v s) with dbusOut := d }) ∧
    (∃ d, TState.runSchedule scheduleLdAHl (TState.ofState s) =
      { TState.ofState (effectLdAHl s) with dbusOut := d, sampled := [s.memory.read s.z80HL.toNat] }) ∧
    (∀ v, ∃ d, TState.runSchedule (scheduleLdHlN v) (TState.ofState s) =
      { TState.ofState (effectLdHlN v s) with dbusOut := d }) ∧
    (∃ d, TState.runSchedule scheduleIncHl (TState.ofState s) =
      { TState.ofState (effectIncHl s) with dbusOut := d }) ∧
    ∀ n a, ∃ bytes t d, readBytes n a s = .next (bytes, t) ∧
      TState.runSchedule (TState.readsSchedule n a) (TState.ofState s) =
        { TState.ofState t with dbusOut := d, sampled := bytes }

/-! ## Memory and the invariant -/

/-- Memory is a function of its addresses and nothing more: two memories in canonical form that read alike are equal;
a read after a write gives the byte written at that address and the old byte at every other; and a write below 2^16
keeps the canonical form. -/
def Obligations.MemoryIsCanonical : Prop :=
  (∀ m n : Memory, m.wf = true → n.wf = true → (∀ a, m.read a = n.read a) → m = n) ∧
  (∀ (m : Memory) (a b : Nat) (v : Byte), (m.write a v).read b = if b = a then v else m.read b) ∧
  ∀ (m : Memory) (a : Nat) (v : Byte), m.wf = true → a < 0x10000 → (m.write a v).wf = true

/-- Every step keeps the invariant: canonical memory, the clock LOW, no bus fight, released and input and out of reset
at a Boundary, every pulse counted, in a session the override events since its reset paired, the returned text and
length within their bounds, at a Boundary the Z80 at the start of an opcode fetch, any known place of it one the
machine-cycle contract has (log 15), no driving while the Z80 drives a byte to write. -/
def Obligations.StepKeepsInvariant : Prop :=
  ∀ s t, StateInv s → step s = .next t → StateInv t

/-- Every operation and every decode in an open session leaves F and the interrupt state as they were, and advances R
by one for each instruction forced, seven bits counting and the eighth kept (70_reset_and_hazards.md section 3; that F
stays is general knowledge, the seven bits are the model's choice, log 23). -/
def Obligations.ForcedInstructionsKeepFlags : Prop :=
  ∀ s, Ready s →
    (∀ v, ∃ t, loadIndexRegister v s = .next t ∧ Fetched 1 s t) ∧
    (∀ a, ∃ v t, readByte a s = .next (v, t) ∧ Fetched 2 s t) ∧
    (∀ a, ∃ w t, readWord a s = .next (w, t) ∧ Fetched 4 s t) ∧
    (∀ a v, s.hlLoaded = true → s.z80HL = a → ∃ t, writeByte a v s = .next t ∧ Fetched 2 s t) ∧
    ∀ A, ∃ t n, disassembleOne A s = .next t ∧ t.readTrace.length = s.readTrace.length + n ∧ 1 ≤ n ∧ n ≤ 4 ∧
      Fetched (2 * n) s t
end

