-- ==== Sys2Proof/Laws/Memory.lean ====
section
/-! SUPPORT. Target memory: a read after a write, and the canonical form, which every memory operation keeps. -/

namespace Sys2Proof.Machine

theorem Memory.read_erase_same (m : Memory) (a : Nat) : (m.erase a).read a = unlistedByte := by
  induction m with
  | nil => rfl
  | cons c rest ih =>
    obtain ⟨b, v⟩ := c
    by_cases h : a = b <;> simp [Memory.erase, Memory.read, h] <;> simpa [h] using ih

theorem Memory.read_erase_other (m : Memory) (a b : Nat) (h : b ≠ a) : (m.erase a).read b = m.read b := by
  induction m with
  | nil => rfl
  | cons c rest ih =>
    obtain ⟨d, v⟩ := c
    by_cases hd : a = d
    · subst hd; simp [Memory.erase, Memory.read, h, ih]
    · simp [Memory.erase, Memory.read, hd, ih]

theorem Memory.read_insert_same (m : Memory) (a : Nat) (v : Byte) (h : ∀ c ∈ m, c.1 ≠ a) :
    (m.insert a v).read a = v := by
  induction m with
  | nil => simp [Memory.insert, Memory.read]
  | cons c rest ih =>
    obtain ⟨d, w⟩ := c
    have hd : a ≠ d := fun e => h (d, w) (by simp) e.symm
    by_cases hlt : a < d
    · simp [Memory.insert, Memory.read, hlt]
    · simpa [Memory.insert, Memory.read, hlt, hd] using ih fun c hc => h c (by simp [hc])

theorem Memory.read_insert_other (m : Memory) (a b : Nat) (v : Byte) (h : b ≠ a) :
    (m.insert a v).read b = m.read b := by
  induction m with
  | nil => simp [Memory.insert, Memory.read, h]
  | cons c rest ih =>
    obtain ⟨d, w⟩ := c
    by_cases hlt : a < d <;> simp [Memory.insert, Memory.read, hlt, h, ih]

theorem Memory.mem_erase_ne (m : Memory) (a : Nat) : ∀ c ∈ m.erase a, c.1 ≠ a := by
  induction m with
  | nil => simp [Memory.erase]
  | cons c rest ih =>
    obtain ⟨d, v⟩ := c
    by_cases h : a = d
    · simp only [Memory.erase, if_pos h]; exact ih
    · simp only [Memory.erase, h, if_false, List.mem_cons]
      rintro c (rfl | hc)
      · exact fun e => h e.symm
      · exact ih c hc

/-- A read after a write to the same address gives the value written. -/
theorem Memory.read_write_same (m : Memory) (a : Nat) (v : Byte) : (m.write a v).read a = v := by
  unfold Memory.write
  split
  · rename_i h; rw [h]; exact m.read_erase_same a
  · exact Memory.read_insert_same _ _ _ (m.mem_erase_ne a)

/-- A write leaves every other address alone. -/
theorem Memory.read_write_other (m : Memory) (a b : Nat) (v : Byte) (h : b ≠ a) :
    (m.write a v).read b = m.read b := by
  unfold Memory.write
  split
  · exact m.read_erase_other a b h
  · rw [Memory.read_insert_other _ _ _ _ h, m.read_erase_other a b h]

theorem Memory.wfAbove_mono {lo hi : Nat} {m : Memory} (h : lo ≤ hi) (hm : Memory.wfAbove hi m = true) :
    Memory.wfAbove lo m = true := by
  cases m with
  | nil => rfl
  | cons c rest =>
    simp only [Memory.wfAbove, Bool.and_eq_true, decide_eq_true_eq] at hm ⊢
    exact ⟨⟨⟨by omega, hm.1.1.2⟩, hm.1.2⟩, hm.2⟩

theorem Memory.wfAbove_erase {lo : Nat} {m : Memory} (a : Nat) (hm : Memory.wfAbove lo m = true) :
    Memory.wfAbove lo (m.erase a) = true := by
  induction m generalizing lo with
  | nil => rfl
  | cons c rest ih =>
    obtain ⟨d, v⟩ := c
    simp only [Memory.wfAbove, Bool.and_eq_true, decide_eq_true_eq] at hm
    by_cases h : a = d
    · simpa [Memory.erase, h] using h ▸ Memory.wfAbove_mono (by omega) (ih hm.2)
    · simp only [Memory.erase, h, if_false, Memory.wfAbove, Bool.and_eq_true, decide_eq_true_eq]
      exact ⟨hm.1, ih hm.2⟩

theorem Memory.wfAbove_insert {lo : Nat} {m : Memory} {a : Nat} {v : Byte} (hlo : lo ≤ a) (ha : a < 0x10000)
    (hv : v ≠ unlistedByte) (hne : ∀ c ∈ m, c.1 ≠ a) (hm : Memory.wfAbove lo m = true) :
    Memory.wfAbove lo (m.insert a v) = true := by
  induction m generalizing lo with
  | nil => simp [Memory.insert, Memory.wfAbove, hlo, ha, hv]
  | cons c rest ih =>
    obtain ⟨d, w⟩ := c
    have hd : d ≠ a := hne (d, w) (by simp)
    simp only [Memory.wfAbove, Bool.and_eq_true, decide_eq_true_eq] at hm
    by_cases hlt : a < d
    · simp only [Memory.insert, hlt, if_true, Memory.wfAbove, Bool.and_eq_true, decide_eq_true_eq]
      exact ⟨⟨⟨hlo, ha⟩, by simpa using hv⟩, ⟨⟨by omega, hm.1.1.2⟩, hm.1.2⟩, hm.2⟩
    · simp only [Memory.insert, hlt, if_false, Memory.wfAbove, Bool.and_eq_true, decide_eq_true_eq]
      exact ⟨hm.1, ih (by omega) (fun c hc => hne c (by simp [hc])) hm.2⟩

/-- A write keeps the canonical form. -/
theorem Memory.wf_write {m : Memory} (hm : m.wf = true) {a : Nat} (ha : a < 0x10000) (v : Byte) :
    (m.write a v).wf = true := by
  unfold Memory.write Memory.wf
  split
  · exact Memory.wfAbove_erase a hm
  · exact Memory.wfAbove_insert (Nat.zero_le a) ha ‹_› (m.mem_erase_ne a) (Memory.wfAbove_erase a hm)

/-- The writes of a desynced instruction keep the canonical form. -/
theorem Memory.wf_writeAll {m : Memory} (hm : m.wf = true) (cells : List Host.Cell) :
    (m.writeAll cells).wf = true := by
  induction cells generalizing m with
  | nil => exact hm
  | cons c rest ih => exact ih (Memory.wf_write hm (Nat.mod_lt _ (by decide)) _)

/-- Placing bytes keeps the canonical form. -/
theorem wf_placeBytes {m : Memory} (hm : m.wf = true) (bytes : List Byte) (address : Word) :
    Memory.wf (placeBytes bytes address m) = true := by
  induction bytes generalizing m address with
  | nil => exact hm
  | cons b rest ih => exact ih (Memory.wf_write hm address.isLt b) _

theorem Memory.wf_reset : State.reset.memory.wf = true := rfl

end Sys2Proof.Machine
end

