-- ==== Sys2Proof/Laws/State.lean ====
section
/-! SUPPORT. One lemma per field per update of the state. -/

namespace Sys2Proof.Machine

/-! Fields after raise Desync. -/

@[simp] theorem raiseDesync_clk (s : State) : (raiseDesync s).clk = s.clk := rfl
@[simp] theorem raiseDesync_rst (s : State) : (raiseDesync s).rst = s.rst := rfl
@[simp] theorem raiseDesync_ramOvr (s : State) : (raiseDesync s).ramOvr = s.ramOvr := rfl
@[simp] theorem raiseDesync_dbusDir (s : State) : (raiseDesync s).dbusDir = s.dbusDir := rfl
@[simp] theorem raiseDesync_dbusOut (s : State) : (raiseDesync s).dbusOut = s.dbusOut := rfl
@[simp] theorem raiseDesync_pinTrace (s : State) : (raiseDesync s).pinTrace = s.pinTrace := rfl
@[simp] theorem raiseDesync_pulseTotal (s : State) : (raiseDesync s).pulseTotal = s.pulseTotal := rfl
@[simp] theorem raiseDesync_sync (s : State) : (raiseDesync s).sync = .lost := rfl
@[simp] theorem raiseDesync_z80Place (s : State) : (raiseDesync s).z80Place = s.z80Place := rfl
@[simp] theorem raiseDesync_z80HL (s : State) : (raiseDesync s).z80HL = s.z80HL := rfl
@[simp] theorem raiseDesync_z80A (s : State) : (raiseDesync s).z80A = s.z80A := rfl
@[simp] theorem raiseDesync_z80PC (s : State) : (raiseDesync s).z80PC = s.z80PC := rfl
@[simp] theorem raiseDesync_z80F (s : State) : (raiseDesync s).z80F = s.z80F := rfl
@[simp] theorem raiseDesync_z80R (s : State) : (raiseDesync s).z80R = s.z80R := rfl
@[simp] theorem raiseDesync_z80IntEnable (s : State) : (raiseDesync s).z80IntEnable = s.z80IntEnable := rfl
@[simp] theorem raiseDesync_z80IntMode (s : State) : (raiseDesync s).z80IntMode = s.z80IntMode := rfl
@[simp] theorem raiseDesync_hlLoaded (s : State) : (raiseDesync s).hlLoaded = s.hlLoaded := rfl
@[simp] theorem raiseDesync_memory (s : State) : (raiseDesync s).memory = s.memory := rfl
@[simp] theorem raiseDesync_pc (s : State) : (raiseDesync s).pc = s.pc := rfl
@[simp] theorem raiseDesync_readTrace (s : State) : (raiseDesync s).readTrace = s.readTrace := rfl
@[simp] theorem raiseDesync_calls (s : State) : (raiseDesync s).calls = s.calls := rfl
@[simp] theorem raiseDesync_returned (s : State) : (raiseDesync s).returned = s.returned := rfl
@[simp] theorem raiseDesync_freeTick (s : State) : (raiseDesync s).freeTick = s.freeTick := rfl

/-! Fields after the registers are lost. -/

@[simp] theorem garbleRegisters_clk (s : State) : (garbleRegisters s).clk = s.clk := rfl
@[simp] theorem garbleRegisters_rst (s : State) : (garbleRegisters s).rst = s.rst := rfl
@[simp] theorem garbleRegisters_ramOvr (s : State) : (garbleRegisters s).ramOvr = s.ramOvr := rfl
@[simp] theorem garbleRegisters_dbusDir (s : State) : (garbleRegisters s).dbusDir = s.dbusDir := rfl
@[simp] theorem garbleRegisters_dbusOut (s : State) : (garbleRegisters s).dbusOut = s.dbusOut := rfl
@[simp] theorem garbleRegisters_pinTrace (s : State) : (garbleRegisters s).pinTrace = s.pinTrace := rfl
@[simp] theorem garbleRegisters_pulseTotal (s : State) : (garbleRegisters s).pulseTotal = s.pulseTotal := rfl
@[simp] theorem garbleRegisters_sync (s : State) : (garbleRegisters s).sync = s.sync := rfl
@[simp] theorem garbleRegisters_z80Place (s : State) : (garbleRegisters s).z80Place = .unknown := rfl
@[simp] theorem garbleRegisters_z80HL (s : State) : (garbleRegisters s).z80HL = Config.freeHL s.freeTick := rfl
@[simp] theorem garbleRegisters_z80A (s : State) : (garbleRegisters s).z80A = Config.freeA s.freeTick := rfl
@[simp] theorem garbleRegisters_z80PC (s : State) : (garbleRegisters s).z80PC = Config.freePC s.freeTick := rfl
@[simp] theorem garbleRegisters_z80F (s : State) : (garbleRegisters s).z80F = Config.freeF s.freeTick := rfl
@[simp] theorem garbleRegisters_z80R (s : State) : (garbleRegisters s).z80R = Config.freeR s.freeTick := rfl
@[simp] theorem garbleRegisters_z80IntEnable (s : State) : (garbleRegisters s).z80IntEnable = Config.freeIntEnable s.freeTick := rfl
@[simp] theorem garbleRegisters_z80IntMode (s : State) : (garbleRegisters s).z80IntMode = Config.freeIntMode s.freeTick := rfl
@[simp] theorem garbleRegisters_hlLoaded (s : State) : (garbleRegisters s).hlLoaded = s.hlLoaded := rfl
@[simp] theorem garbleRegisters_memory (s : State) : (garbleRegisters s).memory = s.memory := rfl
@[simp] theorem garbleRegisters_pc (s : State) : (garbleRegisters s).pc = s.pc := rfl
@[simp] theorem garbleRegisters_readTrace (s : State) : (garbleRegisters s).readTrace = s.readTrace := rfl
@[simp] theorem garbleRegisters_calls (s : State) : (garbleRegisters s).calls = s.calls := rfl
@[simp] theorem garbleRegisters_returned (s : State) : (garbleRegisters s).returned = s.returned := rfl
@[simp] theorem garbleRegisters_freeTick (s : State) : (garbleRegisters s).freeTick = s.freeTick + 1 := rfl

/-! Fields after a desynced instruction. -/

@[simp] theorem garble_clk (s : State) : (garble s).clk = s.clk := rfl
@[simp] theorem garble_rst (s : State) : (garble s).rst = s.rst := rfl
@[simp] theorem garble_ramOvr (s : State) : (garble s).ramOvr = s.ramOvr := rfl
@[simp] theorem garble_dbusDir (s : State) : (garble s).dbusDir = s.dbusDir := rfl
@[simp] theorem garble_dbusOut (s : State) : (garble s).dbusOut = s.dbusOut := rfl
@[simp] theorem garble_pinTrace (s : State) : (garble s).pinTrace = s.pinTrace := rfl
@[simp] theorem garble_pulseTotal (s : State) : (garble s).pulseTotal = s.pulseTotal := rfl
@[simp] theorem garble_sync (s : State) : (garble s).sync = s.sync := rfl
@[simp] theorem garble_z80Place (s : State) : (garble s).z80Place = .unknown := rfl
@[simp] theorem garble_z80HL (s : State) : (garble s).z80HL = Config.freeHL s.freeTick := rfl
@[simp] theorem garble_z80A (s : State) : (garble s).z80A = Config.freeA s.freeTick := rfl
@[simp] theorem garble_z80PC (s : State) : (garble s).z80PC = Config.freePC s.freeTick := rfl
@[simp] theorem garble_z80F (s : State) : (garble s).z80F = Config.freeF s.freeTick := rfl
@[simp] theorem garble_z80R (s : State) : (garble s).z80R = Config.freeR s.freeTick := rfl
@[simp] theorem garble_z80IntEnable (s : State) : (garble s).z80IntEnable = Config.freeIntEnable s.freeTick := rfl
@[simp] theorem garble_z80IntMode (s : State) : (garble s).z80IntMode = Config.freeIntMode s.freeTick := rfl
@[simp] theorem garble_hlLoaded (s : State) : (garble s).hlLoaded = s.hlLoaded := rfl
@[simp] theorem garble_memory (s : State) : (garble s).memory = s.memory.writeAll (Config.scramble s.freeTick) := rfl
@[simp] theorem garble_pc (s : State) : (garble s).pc = s.pc := rfl
@[simp] theorem garble_readTrace (s : State) : (garble s).readTrace = s.readTrace := rfl
@[simp] theorem garble_calls (s : State) : (garble s).calls = s.calls := rfl
@[simp] theorem garble_returned (s : State) : (garble s).returned = s.returned := rfl
@[simp] theorem garble_freeTick (s : State) : (garble s).freeTick = s.freeTick + 1 := rfl

/-! Fields after the forced `LD HL,nn`. -/

@[simp] theorem effectLdHlNn_clk (value : Word) (s : State) : (effectLdHlNn value s).clk = s.clk := rfl
@[simp] theorem effectLdHlNn_rst (value : Word) (s : State) : (effectLdHlNn value s).rst = s.rst := rfl
@[simp] theorem effectLdHlNn_ramOvr (value : Word) (s : State) : (effectLdHlNn value s).ramOvr = s.ramOvr := rfl
@[simp] theorem effectLdHlNn_dbusDir (value : Word) (s : State) : (effectLdHlNn value s).dbusDir = s.dbusDir := rfl
@[simp] theorem effectLdHlNn_dbusOut (value : Word) (s : State) : (effectLdHlNn value s).dbusOut = s.dbusOut := rfl
@[simp] theorem effectLdHlNn_pinTrace (value : Word) (s : State) : (effectLdHlNn value s).pinTrace = s.pinTrace := rfl
@[simp] theorem effectLdHlNn_pulseTotal (value : Word) (s : State) : (effectLdHlNn value s).pulseTotal = s.pulseTotal := rfl
@[simp] theorem effectLdHlNn_sync (value : Word) (s : State) : (effectLdHlNn value s).sync = s.sync := rfl
@[simp] theorem effectLdHlNn_z80Place (value : Word) (s : State) : (effectLdHlNn value s).z80Place = s.z80Place := rfl
@[simp] theorem effectLdHlNn_z80HL (value : Word) (s : State) : (effectLdHlNn value s).z80HL = value := rfl
@[simp] theorem effectLdHlNn_z80A (value : Word) (s : State) : (effectLdHlNn value s).z80A = s.z80A := rfl
@[simp] theorem effectLdHlNn_z80PC (value : Word) (s : State) : (effectLdHlNn value s).z80PC = s.z80PC + 3 := rfl
@[simp] theorem effectLdHlNn_z80F (value : Word) (s : State) : (effectLdHlNn value s).z80F = s.z80F := rfl
@[simp] theorem effectLdHlNn_z80R (value : Word) (s : State) : (effectLdHlNn value s).z80R = advanceR 1 s.z80R := rfl
@[simp] theorem effectLdHlNn_z80IntEnable (value : Word) (s : State) : (effectLdHlNn value s).z80IntEnable = s.z80IntEnable := rfl
@[simp] theorem effectLdHlNn_z80IntMode (value : Word) (s : State) : (effectLdHlNn value s).z80IntMode = s.z80IntMode := rfl
@[simp] theorem effectLdHlNn_hlLoaded (value : Word) (s : State) : (effectLdHlNn value s).hlLoaded = true := rfl
@[simp] theorem effectLdHlNn_memory (value : Word) (s : State) : (effectLdHlNn value s).memory = s.memory := rfl
@[simp] theorem effectLdHlNn_pc (value : Word) (s : State) : (effectLdHlNn value s).pc = s.pc := rfl
@[simp] theorem effectLdHlNn_readTrace (value : Word) (s : State) : (effectLdHlNn value s).readTrace = s.readTrace := rfl
@[simp] theorem effectLdHlNn_calls (value : Word) (s : State) : (effectLdHlNn value s).calls = s.calls := rfl
@[simp] theorem effectLdHlNn_returned (value : Word) (s : State) : (effectLdHlNn value s).returned = s.returned := rfl
@[simp] theorem effectLdHlNn_freeTick (value : Word) (s : State) : (effectLdHlNn value s).freeTick = s.freeTick := rfl

/-! Fields after the forced `LD A,(HL)`. -/

@[simp] theorem effectLdAHl_clk (s : State) : (effectLdAHl s).clk = s.clk := rfl
@[simp] theorem effectLdAHl_rst (s : State) : (effectLdAHl s).rst = s.rst := rfl
@[simp] theorem effectLdAHl_ramOvr (s : State) : (effectLdAHl s).ramOvr = s.ramOvr := rfl
@[simp] theorem effectLdAHl_dbusDir (s : State) : (effectLdAHl s).dbusDir = s.dbusDir := rfl
@[simp] theorem effectLdAHl_dbusOut (s : State) : (effectLdAHl s).dbusOut = s.dbusOut := rfl
@[simp] theorem effectLdAHl_pinTrace (s : State) : (effectLdAHl s).pinTrace = s.pinTrace := rfl
@[simp] theorem effectLdAHl_pulseTotal (s : State) : (effectLdAHl s).pulseTotal = s.pulseTotal := rfl
@[simp] theorem effectLdAHl_sync (s : State) : (effectLdAHl s).sync = s.sync := rfl
@[simp] theorem effectLdAHl_z80Place (s : State) : (effectLdAHl s).z80Place = s.z80Place := rfl
@[simp] theorem effectLdAHl_z80HL (s : State) : (effectLdAHl s).z80HL = s.z80HL := rfl
@[simp] theorem effectLdAHl_z80A (s : State) : (effectLdAHl s).z80A = s.memory.read s.z80HL.toNat := rfl
@[simp] theorem effectLdAHl_z80PC (s : State) : (effectLdAHl s).z80PC = s.z80PC + 1 := rfl
@[simp] theorem effectLdAHl_z80F (s : State) : (effectLdAHl s).z80F = s.z80F := rfl
@[simp] theorem effectLdAHl_z80R (s : State) : (effectLdAHl s).z80R = advanceR 1 s.z80R := rfl
@[simp] theorem effectLdAHl_z80IntEnable (s : State) : (effectLdAHl s).z80IntEnable = s.z80IntEnable := rfl
@[simp] theorem effectLdAHl_z80IntMode (s : State) : (effectLdAHl s).z80IntMode = s.z80IntMode := rfl
@[simp] theorem effectLdAHl_hlLoaded (s : State) : (effectLdAHl s).hlLoaded = s.hlLoaded := rfl
@[simp] theorem effectLdAHl_memory (s : State) : (effectLdAHl s).memory = s.memory := rfl
@[simp] theorem effectLdAHl_pc (s : State) : (effectLdAHl s).pc = s.pc := rfl
@[simp] theorem effectLdAHl_readTrace (s : State) : (effectLdAHl s).readTrace = s.readTrace := rfl
@[simp] theorem effectLdAHl_calls (s : State) : (effectLdAHl s).calls = s.calls := rfl
@[simp] theorem effectLdAHl_returned (s : State) : (effectLdAHl s).returned = s.returned := rfl
@[simp] theorem effectLdAHl_freeTick (s : State) : (effectLdAHl s).freeTick = s.freeTick := rfl

/-! Fields after the forced `LD (HL),n`. -/

@[simp] theorem effectLdHlN_clk (value : Byte) (s : State) : (effectLdHlN value s).clk = s.clk := rfl
@[simp] theorem effectLdHlN_rst (value : Byte) (s : State) : (effectLdHlN value s).rst = s.rst := rfl
@[simp] theorem effectLdHlN_ramOvr (value : Byte) (s : State) : (effectLdHlN value s).ramOvr = s.ramOvr := rfl
@[simp] theorem effectLdHlN_dbusDir (value : Byte) (s : State) : (effectLdHlN value s).dbusDir = s.dbusDir := rfl
@[simp] theorem effectLdHlN_dbusOut (value : Byte) (s : State) : (effectLdHlN value s).dbusOut = s.dbusOut := rfl
@[simp] theorem effectLdHlN_pinTrace (value : Byte) (s : State) : (effectLdHlN value s).pinTrace = s.pinTrace := rfl
@[simp] theorem effectLdHlN_pulseTotal (value : Byte) (s : State) : (effectLdHlN value s).pulseTotal = s.pulseTotal := rfl
@[simp] theorem effectLdHlN_sync (value : Byte) (s : State) : (effectLdHlN value s).sync = s.sync := rfl
@[simp] theorem effectLdHlN_z80Place (value : Byte) (s : State) : (effectLdHlN value s).z80Place = s.z80Place := rfl
@[simp] theorem effectLdHlN_z80HL (value : Byte) (s : State) : (effectLdHlN value s).z80HL = s.z80HL := rfl
@[simp] theorem effectLdHlN_z80A (value : Byte) (s : State) : (effectLdHlN value s).z80A = s.z80A := rfl
@[simp] theorem effectLdHlN_z80PC (value : Byte) (s : State) : (effectLdHlN value s).z80PC = s.z80PC + 2 := rfl
@[simp] theorem effectLdHlN_z80F (value : Byte) (s : State) : (effectLdHlN value s).z80F = s.z80F := rfl
@[simp] theorem effectLdHlN_z80R (value : Byte) (s : State) : (effectLdHlN value s).z80R = advanceR 1 s.z80R := rfl
@[simp] theorem effectLdHlN_z80IntEnable (value : Byte) (s : State) : (effectLdHlN value s).z80IntEnable = s.z80IntEnable := rfl
@[simp] theorem effectLdHlN_z80IntMode (value : Byte) (s : State) : (effectLdHlN value s).z80IntMode = s.z80IntMode := rfl
@[simp] theorem effectLdHlN_hlLoaded (value : Byte) (s : State) : (effectLdHlN value s).hlLoaded = s.hlLoaded := rfl
@[simp] theorem effectLdHlN_memory (value : Byte) (s : State) : (effectLdHlN value s).memory = s.memory.write s.z80HL.toNat value := rfl
@[simp] theorem effectLdHlN_pc (value : Byte) (s : State) : (effectLdHlN value s).pc = s.pc := rfl
@[simp] theorem effectLdHlN_readTrace (value : Byte) (s : State) : (effectLdHlN value s).readTrace = s.readTrace := rfl
@[simp] theorem effectLdHlN_calls (value : Byte) (s : State) : (effectLdHlN value s).calls = s.calls := rfl
@[simp] theorem effectLdHlN_returned (value : Byte) (s : State) : (effectLdHlN value s).returned = s.returned := rfl
@[simp] theorem effectLdHlN_freeTick (value : Byte) (s : State) : (effectLdHlN value s).freeTick = s.freeTick := rfl

/-! Fields after the forced `INC HL`. -/

@[simp] theorem effectIncHl_clk (s : State) : (effectIncHl s).clk = s.clk := rfl
@[simp] theorem effectIncHl_rst (s : State) : (effectIncHl s).rst = s.rst := rfl
@[simp] theorem effectIncHl_ramOvr (s : State) : (effectIncHl s).ramOvr = s.ramOvr := rfl
@[simp] theorem effectIncHl_dbusDir (s : State) : (effectIncHl s).dbusDir = s.dbusDir := rfl
@[simp] theorem effectIncHl_dbusOut (s : State) : (effectIncHl s).dbusOut = s.dbusOut := rfl
@[simp] theorem effectIncHl_pinTrace (s : State) : (effectIncHl s).pinTrace = s.pinTrace := rfl
@[simp] theorem effectIncHl_pulseTotal (s : State) : (effectIncHl s).pulseTotal = s.pulseTotal := rfl
@[simp] theorem effectIncHl_sync (s : State) : (effectIncHl s).sync = s.sync := rfl
@[simp] theorem effectIncHl_z80Place (s : State) : (effectIncHl s).z80Place = s.z80Place := rfl
@[simp] theorem effectIncHl_z80HL (s : State) : (effectIncHl s).z80HL = s.z80HL + 1 := rfl
@[simp] theorem effectIncHl_z80A (s : State) : (effectIncHl s).z80A = s.z80A := rfl
@[simp] theorem effectIncHl_z80PC (s : State) : (effectIncHl s).z80PC = s.z80PC + 1 := rfl
@[simp] theorem effectIncHl_z80F (s : State) : (effectIncHl s).z80F = s.z80F := rfl
@[simp] theorem effectIncHl_z80R (s : State) : (effectIncHl s).z80R = advanceR 1 s.z80R := rfl
@[simp] theorem effectIncHl_z80IntEnable (s : State) : (effectIncHl s).z80IntEnable = s.z80IntEnable := rfl
@[simp] theorem effectIncHl_z80IntMode (s : State) : (effectIncHl s).z80IntMode = s.z80IntMode := rfl
@[simp] theorem effectIncHl_hlLoaded (s : State) : (effectIncHl s).hlLoaded = s.hlLoaded := rfl
@[simp] theorem effectIncHl_memory (s : State) : (effectIncHl s).memory = s.memory := rfl
@[simp] theorem effectIncHl_pc (s : State) : (effectIncHl s).pc = s.pc := rfl
@[simp] theorem effectIncHl_readTrace (s : State) : (effectIncHl s).readTrace = s.readTrace := rfl
@[simp] theorem effectIncHl_calls (s : State) : (effectIncHl s).calls = s.calls := rfl
@[simp] theorem effectIncHl_returned (s : State) : (effectIncHl s).returned = s.returned := rfl
@[simp] theorem effectIncHl_freeTick (s : State) : (effectIncHl s).freeTick = s.freeTick := rfl

/-! Fields after `resetCpu`. -/

@[simp] theorem effectResetCpu_clk (s : State) : (effectResetCpu s).clk = s.clk := rfl
@[simp] theorem effectResetCpu_rst (s : State) : (effectResetCpu s).rst = s.rst := rfl
@[simp] theorem effectResetCpu_ramOvr (s : State) : (effectResetCpu s).ramOvr = s.ramOvr := rfl
@[simp] theorem effectResetCpu_dbusDir (s : State) : (effectResetCpu s).dbusDir = s.dbusDir := rfl
@[simp] theorem effectResetCpu_dbusOut (s : State) : (effectResetCpu s).dbusOut = s.dbusOut := rfl
@[simp] theorem effectResetCpu_pinTrace (s : State) : (effectResetCpu s).pinTrace = s.pinTrace := rfl
@[simp] theorem effectResetCpu_pulseTotal (s : State) : (effectResetCpu s).pulseTotal = s.pulseTotal := rfl
@[simp] theorem effectResetCpu_sync (s : State) : (effectResetCpu s).sync = .boundary := rfl
@[simp] theorem effectResetCpu_z80Place (s : State) : (effectResetCpu s).z80Place = .cycle (.fetch 0) := rfl
@[simp] theorem effectResetCpu_z80HL (s : State) : (effectResetCpu s).z80HL = Config.freeHL s.freeTick := rfl
@[simp] theorem effectResetCpu_z80A (s : State) : (effectResetCpu s).z80A = Config.freeA s.freeTick := rfl
@[simp] theorem effectResetCpu_z80PC (s : State) : (effectResetCpu s).z80PC = 0x0000 := rfl
@[simp] theorem effectResetCpu_z80F (s : State) : (effectResetCpu s).z80F = Config.freeF s.freeTick := rfl
@[simp] theorem effectResetCpu_z80R (s : State) : (effectResetCpu s).z80R = Config.freeR s.freeTick := rfl
@[simp] theorem effectResetCpu_z80IntEnable (s : State) : (effectResetCpu s).z80IntEnable = false := rfl
@[simp] theorem effectResetCpu_z80IntMode (s : State) : (effectResetCpu s).z80IntMode = .mode0 := rfl
@[simp] theorem effectResetCpu_hlLoaded (s : State) : (effectResetCpu s).hlLoaded = false := rfl
@[simp] theorem effectResetCpu_memory (s : State) : (effectResetCpu s).memory = s.memory := rfl
@[simp] theorem effectResetCpu_pc (s : State) : (effectResetCpu s).pc = s.pc := rfl
@[simp] theorem effectResetCpu_readTrace (s : State) : (effectResetCpu s).readTrace = s.readTrace := rfl
@[simp] theorem effectResetCpu_calls (s : State) : (effectResetCpu s).calls = s.calls := rfl
@[simp] theorem effectResetCpu_returned (s : State) : (effectResetCpu s).returned = s.returned := rfl
@[simp] theorem effectResetCpu_freeTick (s : State) : (effectResetCpu s).freeTick = s.freeTick + 1 := rfl

/-! Fields after the desync of a direct call and after what it returns is recorded. -/

@[simp] theorem directDesync_clk (s : State) : (directDesync s).clk = s.clk := by
  unfold directDesync; split <;> rfl
@[simp] theorem directDesync_rst (s : State) : (directDesync s).rst = s.rst := by
  unfold directDesync; split <;> rfl
@[simp] theorem directDesync_ramOvr (s : State) : (directDesync s).ramOvr = s.ramOvr := by
  unfold directDesync; split <;> rfl
@[simp] theorem directDesync_dbusDir (s : State) : (directDesync s).dbusDir = s.dbusDir := by
  unfold directDesync; split <;> rfl
@[simp] theorem directDesync_dbusOut (s : State) : (directDesync s).dbusOut = s.dbusOut := by
  unfold directDesync; split <;> rfl
@[simp] theorem directDesync_pinTrace (s : State) : (directDesync s).pinTrace = s.pinTrace := by
  unfold directDesync; split <;> rfl
@[simp] theorem directDesync_pulseTotal (s : State) : (directDesync s).pulseTotal = s.pulseTotal := by
  unfold directDesync; split <;> rfl
@[simp] theorem directDesync_sync (s : State) :
    (directDesync s).sync = if s.rst = .released then .lost else s.sync := by
  unfold directDesync; split <;> rfl
@[simp] theorem directDesync_z80Place (s : State) : (directDesync s).z80Place = s.z80Place := by
  unfold directDesync; split <;> rfl
@[simp] theorem directDesync_z80HL (s : State) : (directDesync s).z80HL = s.z80HL := by
  unfold directDesync; split <;> rfl
@[simp] theorem directDesync_z80A (s : State) : (directDesync s).z80A = s.z80A := by
  unfold directDesync; split <;> rfl
@[simp] theorem directDesync_z80PC (s : State) : (directDesync s).z80PC = s.z80PC := by
  unfold directDesync; split <;> rfl
@[simp] theorem directDesync_z80F (s : State) : (directDesync s).z80F = s.z80F := by
  unfold directDesync; split <;> rfl
@[simp] theorem directDesync_z80R (s : State) : (directDesync s).z80R = s.z80R := by
  unfold directDesync; split <;> rfl
@[simp] theorem directDesync_z80IntEnable (s : State) : (directDesync s).z80IntEnable = s.z80IntEnable := by
  unfold directDesync; split <;> rfl
@[simp] theorem directDesync_z80IntMode (s : State) : (directDesync s).z80IntMode = s.z80IntMode := by
  unfold directDesync; split <;> rfl
@[simp] theorem directDesync_hlLoaded (s : State) : (directDesync s).hlLoaded = s.hlLoaded := by
  unfold directDesync; split <;> rfl
@[simp] theorem directDesync_memory (s : State) : (directDesync s).memory = s.memory := by
  unfold directDesync; split <;> rfl
@[simp] theorem directDesync_pc (s : State) : (directDesync s).pc = s.pc := by
  unfold directDesync; split <;> rfl
@[simp] theorem directDesync_readTrace (s : State) : (directDesync s).readTrace = s.readTrace := by
  unfold directDesync; split <;> rfl
@[simp] theorem directDesync_calls (s : State) : (directDesync s).calls = s.calls := by
  unfold directDesync; split <;> rfl
@[simp] theorem directDesync_returned (s : State) : (directDesync s).returned = s.returned := by
  unfold directDesync; split <;> rfl
@[simp] theorem directDesync_freeTick (s : State) : (directDesync s).freeTick = s.freeTick := by
  unfold directDesync; split <;> rfl

@[simp] theorem recordSample_clk (busOp : BusOp) (s t : State) : (recordSample busOp s t).clk = t.clk := by
  cases busOp <;> rfl
@[simp] theorem recordSample_rst (busOp : BusOp) (s t : State) : (recordSample busOp s t).rst = t.rst := by
  cases busOp <;> rfl
@[simp] theorem recordSample_ramOvr (busOp : BusOp) (s t : State) : (recordSample busOp s t).ramOvr = t.ramOvr := by
  cases busOp <;> rfl
@[simp] theorem recordSample_dbusDir (busOp : BusOp) (s t : State) : (recordSample busOp s t).dbusDir = t.dbusDir := by
  cases busOp <;> rfl
@[simp] theorem recordSample_dbusOut (busOp : BusOp) (s t : State) : (recordSample busOp s t).dbusOut = t.dbusOut := by
  cases busOp <;> rfl
@[simp] theorem recordSample_pinTrace (busOp : BusOp) (s t : State) : (recordSample busOp s t).pinTrace = t.pinTrace := by
  cases busOp <;> rfl
@[simp] theorem recordSample_pulseTotal (busOp : BusOp) (s t : State) : (recordSample busOp s t).pulseTotal = t.pulseTotal := by
  cases busOp <;> rfl
@[simp] theorem recordSample_sync (busOp : BusOp) (s t : State) : (recordSample busOp s t).sync = t.sync := by
  cases busOp <;> rfl
@[simp] theorem recordSample_z80Place (busOp : BusOp) (s t : State) : (recordSample busOp s t).z80Place = t.z80Place := by
  cases busOp <;> rfl
@[simp] theorem recordSample_z80HL (busOp : BusOp) (s t : State) : (recordSample busOp s t).z80HL = t.z80HL := by
  cases busOp <;> rfl
@[simp] theorem recordSample_z80A (busOp : BusOp) (s t : State) : (recordSample busOp s t).z80A = t.z80A := by
  cases busOp <;> rfl
@[simp] theorem recordSample_z80PC (busOp : BusOp) (s t : State) : (recordSample busOp s t).z80PC = t.z80PC := by
  cases busOp <;> rfl
@[simp] theorem recordSample_z80F (busOp : BusOp) (s t : State) : (recordSample busOp s t).z80F = t.z80F := by
  cases busOp <;> rfl
@[simp] theorem recordSample_z80R (busOp : BusOp) (s t : State) : (recordSample busOp s t).z80R = t.z80R := by
  cases busOp <;> rfl
@[simp] theorem recordSample_z80IntEnable (busOp : BusOp) (s t : State) : (recordSample busOp s t).z80IntEnable = t.z80IntEnable := by
  cases busOp <;> rfl
@[simp] theorem recordSample_z80IntMode (busOp : BusOp) (s t : State) : (recordSample busOp s t).z80IntMode = t.z80IntMode := by
  cases busOp <;> rfl
@[simp] theorem recordSample_hlLoaded (busOp : BusOp) (s t : State) : (recordSample busOp s t).hlLoaded = t.hlLoaded := by
  cases busOp <;> rfl
@[simp] theorem recordSample_memory (busOp : BusOp) (s t : State) : (recordSample busOp s t).memory = t.memory := by
  cases busOp <;> rfl
@[simp] theorem recordSample_pc (busOp : BusOp) (s t : State) : (recordSample busOp s t).pc = t.pc := by
  cases busOp <;> rfl
@[simp] theorem recordSample_readTrace (busOp : BusOp) (s t : State) : (recordSample busOp s t).readTrace = t.readTrace := by
  cases busOp <;> rfl
@[simp] theorem recordSample_calls (busOp : BusOp) (s t : State) : (recordSample busOp s t).calls = t.calls := by
  cases busOp <;> rfl

end Sys2Proof.Machine
end

