-- ==== Sys2Proof/Laws/Channel.lean ====
section
/-! SUPPORT. What each shared operation of the sequencer does: the schedules, the channel operations, a run of reads and a
decode, at a Boundary and desynced. Later proofs cite these and do not unfold the operations. -/

namespace Sys2Proof.Machine

@[simp] theorem andThen_next {α β : Type} (a : α) (f : α → Host.Outcome β Fault Refusal) :
    andThen (.next a) f = f a := rfl

@[simp] theorem andThen_fault {α β : Type} (r : Fault) (f : α → Host.Outcome β Fault Refusal) :
    andThen (.fault r) f = .fault r := rfl

@[simp] theorem andThen_refused {α β : Type} (r : Refusal) (f : α → Host.Outcome β Fault Refusal) :
    andThen (.refused r) f = .refused r := rfl

theorem andThen_eq_next {α β : Type} {o : Host.Outcome α Fault Refusal} {f : α → Host.Outcome β Fault Refusal} {b : β}
    (h : andThen o f = .next b) : ∃ a, o = .next a ∧ f a = .next b := by
  cases o with
  | next a => exact ⟨a, rfl, h⟩
  | fault r => simp at h
  | refused r => simp at h

/-! ## What the events of each forced instruction and operation count (41_channel_ops.md R121) -/

@[simp] theorem count_pulse_resetEvents : resetEvents.count .pulse = 8 := by
  simp [resetEvents, pulses]
@[simp] theorem count_ovrAssert_resetEvents : resetEvents.count .ovrAssert = 0 := by
  simp [resetEvents, pulses]
@[simp] theorem count_ovrRelease_resetEvents : resetEvents.count .ovrRelease = 0 := by
  simp [resetEvents, pulses]
@[simp] theorem count_rstAssert_resetEvents : resetEvents.count .rstAssert = 1 := by
  simp [resetEvents, pulses]
@[simp] theorem driven_resetEvents :
    resetEvents.filterMap PinEvent.driven = [] := rfl

@[simp] theorem count_pulse_loadEvents (v : Word) : (loadEvents v).count .pulse = 10 := by
  simp [loadEvents, pulses]
@[simp] theorem count_ovrAssert_loadEvents (v : Word) : (loadEvents v).count .ovrAssert = 1 := by
  simp [loadEvents, pulses]
@[simp] theorem count_ovrRelease_loadEvents (v : Word) : (loadEvents v).count .ovrRelease = 1 := by
  simp [loadEvents, pulses]
@[simp] theorem count_rstAssert_loadEvents (v : Word) : (loadEvents v).count .rstAssert = 0 := by
  simp [loadEvents, pulses]
@[simp] theorem driven_loadEvents (v : Word) :
    (loadEvents v).filterMap PinEvent.driven = [0x21, lo8 v, hi8 v] := rfl

@[simp] theorem count_pulse_ldAHlEvents (v : Byte) : (ldAHlEvents v).count .pulse = 7 := by
  simp [ldAHlEvents, pulses]
@[simp] theorem count_ovrAssert_ldAHlEvents (v : Byte) : (ldAHlEvents v).count .ovrAssert = 1 := by
  simp [ldAHlEvents, pulses]
@[simp] theorem count_ovrRelease_ldAHlEvents (v : Byte) : (ldAHlEvents v).count .ovrRelease = 1 := by
  simp [ldAHlEvents, pulses]
@[simp] theorem count_rstAssert_ldAHlEvents (v : Byte) : (ldAHlEvents v).count .rstAssert = 0 := by
  simp [ldAHlEvents, pulses]
@[simp] theorem driven_ldAHlEvents (v : Byte) :
    (ldAHlEvents v).filterMap PinEvent.driven = [0x7E] := rfl

@[simp] theorem count_pulse_ldHlNEvents (v : Byte) : (ldHlNEvents v).count .pulse = 10 := by
  simp [ldHlNEvents, pulses]
@[simp] theorem count_ovrAssert_ldHlNEvents (v : Byte) : (ldHlNEvents v).count .ovrAssert = 1 := by
  simp [ldHlNEvents, pulses]
@[simp] theorem count_ovrRelease_ldHlNEvents (v : Byte) : (ldHlNEvents v).count .ovrRelease = 1 := by
  simp [ldHlNEvents, pulses]
@[simp] theorem count_rstAssert_ldHlNEvents (v : Byte) : (ldHlNEvents v).count .rstAssert = 0 := by
  simp [ldHlNEvents, pulses]
@[simp] theorem driven_ldHlNEvents (v : Byte) :
    (ldHlNEvents v).filterMap PinEvent.driven = [0x36, v] := rfl

@[simp] theorem count_pulse_incHlEvents : incHlEvents.count .pulse = 6 := by
  simp [incHlEvents, pulses]
@[simp] theorem count_ovrAssert_incHlEvents : incHlEvents.count .ovrAssert = 1 := by
  simp [incHlEvents, pulses]
@[simp] theorem count_ovrRelease_incHlEvents : incHlEvents.count .ovrRelease = 1 := by
  simp [incHlEvents, pulses]
@[simp] theorem count_rstAssert_incHlEvents : incHlEvents.count .rstAssert = 0 := by
  simp [incHlEvents, pulses]
@[simp] theorem driven_incHlEvents :
    incHlEvents.filterMap PinEvent.driven = [0x23] := rfl

@[simp] theorem count_pulse_readEvents (a : Word) (v : Byte) : (readEvents a v).count .pulse = 17 := by
  simp [readEvents]
@[simp] theorem count_ovrAssert_readEvents (a : Word) (v : Byte) : (readEvents a v).count .ovrAssert = 2 := by
  simp [readEvents]
@[simp] theorem count_ovrRelease_readEvents (a : Word) (v : Byte) : (readEvents a v).count .ovrRelease = 2 := by
  simp [readEvents]
@[simp] theorem count_rstAssert_readEvents (a : Word) (v : Byte) : (readEvents a v).count .rstAssert = 0 := by
  simp [readEvents]
@[simp] theorem driven_readEvents (a : Word) (v : Byte) :
    (readEvents a v).filterMap PinEvent.driven = [0x21, lo8 a, hi8 a, 0x7E] := rfl

@[simp] theorem count_pulse_writeEvents (v : Byte) : (writeEvents v).count .pulse = 16 := by
  simp [writeEvents]
@[simp] theorem count_ovrAssert_writeEvents (v : Byte) : (writeEvents v).count .ovrAssert = 2 := by
  simp [writeEvents]
@[simp] theorem count_ovrRelease_writeEvents (v : Byte) : (writeEvents v).count .ovrRelease = 2 := by
  simp [writeEvents]
@[simp] theorem count_rstAssert_writeEvents (v : Byte) : (writeEvents v).count .rstAssert = 0 := by
  simp [writeEvents]
@[simp] theorem driven_writeEvents (v : Byte) :
    (writeEvents v).filterMap PinEvent.driven = [0x36, v, 0x23] := rfl

/-! ## One primitive -/

/-- All that a primitive which completes can do: it moves pins and records it, and every other field stays; the bus is
owned before and after, and pulses are counted as they are recorded. -/
structure MovesPins (s t : State) : Prop where
  clk : t.clk = s.clk
  sync : t.sync = s.sync
  z80HL : t.z80HL = s.z80HL
  z80A : t.z80A = s.z80A
  z80PC : t.z80PC = s.z80PC
  z80F : t.z80F = s.z80F
  z80R : t.z80R = s.z80R
  z80IntEnable : t.z80IntEnable = s.z80IntEnable
  z80IntMode : t.z80IntMode = s.z80IntMode
  hlLoaded : t.hlLoaded = s.hlLoaded
  memory : t.memory = s.memory
  pc : t.pc = s.pc
  readTrace : t.readTrace = s.readTrace
  calls : t.calls = s.calls
  returned : t.returned = s.returned
  freeTick : t.freeTick = s.freeTick
  z80Place : t.z80Place = s.z80Place
  owned : busFight s = false
  stays_owned : busFight t = false
  counted : t.pulseTotal + s.pinTrace.count .pulse = s.pulseTotal + t.pinTrace.count .pulse

theorem runOp_movesPins {bus : Byte} {busOp : BusOp} {s t : State} (h : runOp bus busOp s = .next t) :
    MovesPins s t := by
  unfold runOp at h
  split at h
  · cases h
  · rename_i hf
    cases busOp <;>
      simp only [pulse, setDataBusOutput, setDataBusInput, sampleDataBus, assertRamOverride, releaseRamOverride,
        assertReset, releaseReset] at h <;>
      (repeat' split at h) <;> cases h <;> constructor <;>
      first | rfl | exact hf | (simp_all [busFight, List.count_append]; done) | (simp [List.count_append]; omega)

/-! ## The schedules from an operation boundary -/

theorem runSchedule_ldHlNn {s : State} (h : AtRest s) (bus : Byte) (v : Word) :
    runSchedule bus (scheduleLdHlNn v) s = .next { s with
      dbusOut := hi8 v, pinTrace := s.pinTrace ++ loadEvents v, pulseTotal := s.pulseTotal + 10 } := by
  obtain ⟨h1, h2, h3⟩ := h
  cases s
  simp_all [scheduleLdHlNn, runSchedule, runOp, busFight, pulse, setDataBusOutput, setDataBusInput,
    assertRamOverride, releaseRamOverride, loadEvents, pulses, List.replicate, opcLdHlNn]

theorem runSchedule_ldAHl {s : State} (h : AtRest s) (v : Byte) :
    runSchedule v scheduleLdAHl s = .next { s with
      dbusOut := 0x7E
      pinTrace := s.pinTrace ++ ldAHlEvents v
      pulseTotal := s.pulseTotal + 7 } := by
  obtain ⟨h1, h2, h3⟩ := h
  cases s
  simp_all [scheduleLdAHl, runSchedule, runOp, busFight, pulse, setDataBusOutput, setDataBusInput,
    assertRamOverride, releaseRamOverride, sampleDataBus, ldAHlEvents, pulses, List.replicate, opcLdAHl]

theorem runSchedule_ldHlN {s : State} (h : AtRest s) (bus v : Byte) :
    runSchedule bus (scheduleLdHlN v) s = .next { s with
      dbusOut := v
      pinTrace := s.pinTrace ++ ldHlNEvents v
      pulseTotal := s.pulseTotal + 10 } := by
  obtain ⟨h1, h2, h3⟩ := h
  cases s
  simp_all [scheduleLdHlN, runSchedule, runOp, busFight, pulse, setDataBusOutput, setDataBusInput,
    assertRamOverride, releaseRamOverride, ldHlNEvents, pulses, List.replicate, opcLdHlN]

theorem runSchedule_incHl {s : State} (h : AtRest s) (bus : Byte) :
    runSchedule bus scheduleIncHl s = .next { s with
      dbusOut := 0x23
      pinTrace := s.pinTrace ++ incHlEvents
      pulseTotal := s.pulseTotal + 6 } := by
  obtain ⟨h1, h2, h3⟩ := h
  cases s
  simp_all [scheduleIncHl, runSchedule, runOp, busFight, pulse, setDataBusOutput, setDataBusInput,
    assertRamOverride, releaseRamOverride, incHlEvents, pulses, List.replicate, opcIncHl]

/-- Every forced instruction begins with a pulse and an assertion of the override: it is refused at a Boundary while the
override is asserted. -/
theorem forcedInstruction_overridden {s : State} (hc : s.clk = .low) (hf : s.ramOvr = .asserted)
    (hb : s.sync = .boundary) (bus : Byte) (rest : List BusOp) (effect : State → State) :
    forcedInstruction bus (.pulse 1 :: .assertRamOverride :: rest) effect s = .refused .overrideAlreadyAsserted := by
  simp [forcedInstruction, runSchedule, runOp, busFight, pulse, assertRamOverride, hc, hf, hb]

/-! ## The schedules while desynced

Whatever the override and the data pins were, each ends with them at rest (60_exceptions.md R371 (b); U1, U2). -/

/-- How every forced instruction begins makes no difference between what a broken caller left and pins at rest. -/
theorem runSchedule_desynced {s : State} (h : Desynced s) (bus v : Byte) (rest : List BusOp) :
    runSchedule bus (.pulse 1 :: .assertRamOverride :: .setDataBusOutput v :: rest) s =
      runSchedule bus (.pulse 1 :: .assertRamOverride :: .setDataBusOutput v :: rest)
        { s with ramOvr := .released, dbusDir := .inPullup } := by
  obtain ⟨h1, h2, h3⟩ := h
  have hp : ¬(s.dbusDir = .out ∧ s.ramOvr = .released) := fun h => by simp [h2 h.1] at h
  simp [runSchedule, runOp, busFight, hp, pulse, assertRamOverride, setDataBusOutput, h1, h3]

theorem runSchedule_ldHlNn_desynced {s : State} (h : Desynced s) (bus : Byte) (v : Word) :
    runSchedule bus (scheduleLdHlNn v) s = .next { s with
      ramOvr := .released, dbusDir := .inPullup
      dbusOut := hi8 v, pinTrace := s.pinTrace ++ loadEvents v, pulseTotal := s.pulseTotal + 10 } :=
  (runSchedule_desynced h bus _ _).trans
    (runSchedule_ldHlNn (s := { s with ramOvr := .released, dbusDir := .inPullup }) ⟨h.1, rfl, rfl⟩ bus v)

theorem runSchedule_ldHlN_desynced {s : State} (h : Desynced s) (bus v : Byte) :
    runSchedule bus (scheduleLdHlN v) s = .next { s with
      ramOvr := .released, dbusDir := .inPullup
      dbusOut := v
      pinTrace := s.pinTrace ++ ldHlNEvents v
      pulseTotal := s.pulseTotal + 10 } :=
  (runSchedule_desynced h bus _ _).trans
    (runSchedule_ldHlN (s := { s with ramOvr := .released, dbusDir := .inPullup }) ⟨h.1, rfl, rfl⟩ bus v)

/-! ## The refresh register -/

@[simp] theorem advanceR_zero (r : Byte) : advanceR 0 r = r := by
  apply BitVec.eq_of_toNat_eq
  simp only [advanceR, BitVec.toNat_ofNat]
  have := r.isLt
  omega

/-- Fetches add up. -/
@[simp] theorem advanceR_advanceR (m n : Nat) (r : Byte) : advanceR m (advanceR n r) = advanceR (n + m) r := by
  apply BitVec.eq_of_toNat_eq
  simp only [advanceR, BitVec.toNat_ofNat]
  have := r.isLt
  omega

/-! ## The channel operations from an operation boundary -/

theorem loadIndexRegister_ready {s : State} (h : Ready s) (v : Word) :
    loadIndexRegister v s = .next (effectLdHlNn v { s with
      dbusOut := hi8 v, pinTrace := s.pinTrace ++ loadEvents v, pulseTotal := s.pulseTotal + 10 }) := by
  simp [loadIndexRegister, forcedInstruction, runSchedule_ldHlNn h.1, h.2]

/-- The state after a `readByte` in an open session (R112, R116, R117). -/
def afterRead (address : Word) (s : State) : State :=
  { s with
    dbusOut := 0x7E
    pinTrace := s.pinTrace ++ readEvents address (s.memory.read address.toNat)
    pulseTotal := s.pulseTotal + 17
    z80HL := address
    z80A := s.memory.read address.toNat
    z80PC := s.z80PC + 4
    z80R := advanceR 2 s.z80R
    hlLoaded := true
    readTrace := s.readTrace ++ [address] }

theorem readByte_ready {s : State} (h : Ready s) (address : Word) :
    readByte address s = .next (s.memory.read address.toNat, afterRead address s) := by
  obtain ⟨hr, hb⟩ := h
  have h1 : AtRest (effectLdHlNn address { s with
      dbusOut := hi8 address, pinTrace := s.pinTrace ++ loadEvents address, pulseTotal := s.pulseTotal + 10 }) := hr
  rw [readByte, loadIndexRegister_ready ⟨hr, hb⟩, andThen_next, forcedInstruction, runSchedule_ldAHl h1]
  simp [effectLdHlNn, effectLdAHl, sampledByte, hb, afterRead, readEvents, BitVec.add_assoc]

theorem ready_afterRead {s : State} (h : Ready s) (address : Word) : Ready (afterRead address s) := h

/-- The reads of a run of bytes in an open session, from any address: the bytes, and `afterReads` of the state with the
cursor there. -/
theorem readBytes_ready_from (n : Nat) {s : State} (h : Ready s) (a : Word) :
    readBytes (n + 1) a s = .next ((List.range (n + 1)).map (fun k => s.memory.read (a + BitVec.ofNat 16 k).toNat),
      { afterReads n { s with pc := a } with pc := s.pc }) := by
  induction n generalizing s a with
  | zero =>
    simp [-BitVec.toNat_add, readBytes, readByte_ready h, afterRead, afterReads, readsEvents, targetByte]
  | succ n ih =>
    have e : ∀ k, a + 1 + BitVec.ofNat 16 k = a + BitVec.ofNat 16 (k + 1) := by
      intro k; rw [BitVec.add_assoc, Nat.add_comm k 1, BitVec.ofNat_add]; rfl
    have p : s.z80PC + 4 + BitVec.ofNat 16 (4 * (n + 1)) = s.z80PC + BitVec.ofNat 16 (4 * (n + 1 + 1)) := by
      rw [BitVec.add_assoc, show 4 * (n + 1 + 1) = 4 + 4 * (n + 1) by ring, BitVec.ofNat_add]; rfl
    have q : 2 + 2 * (n + 1) = 2 * (n + 1 + 1) := by ring
    rw [readBytes, readByte_ready h, andThen_next, ih (ready_afterRead h a), andThen_next]
    rw [List.range_succ_eq_map (n := n + 1)]
    simp only [afterReads, afterRead, readsEvents, targetByte, e, p, q, advanceR_advanceR, List.map_cons,
      List.map_map, Function.comp_def, List.range_succ_eq_map (n := n + 1), List.flatMap_cons, List.flatMap_map, List.append_assoc]
    simp [-BitVec.toNat_add]
    ring

/-- The reads of a decode in an open session. -/
theorem readBytes_ready {s : State} (h : Ready s) (n : Nat) :
    readBytes (n + 1) s.pc s = .next ((List.range (n + 1)).map (targetByte s), afterReads n s) :=
  readBytes_ready_from n h s.pc

/-- A decode in an open session. -/
theorem present_ready {s : State} (h : Ready s) (pfx : PrefixClass) (opcode : Byte) (text : Text) (len n : Nat) :
    present pfx opcode text len (n + 1) s = .next (decoded pfx opcode text len (n + 1) s) := by
  simp [present, readBytes_ready h, decoded, afterReads]

/-- The two forced instructions of a write in an open session (R113, R118, R119). -/
theorem storeAndAdvance_ready {s : State} (h : Ready s) (v : Byte) :
    storeAndAdvance v s = .next { s with
      dbusOut := 0x23
      pinTrace := s.pinTrace ++ writeEvents v
      pulseTotal := s.pulseTotal + 16
      memory := s.memory.write s.z80HL.toNat v
      z80HL := s.z80HL + 1
      z80PC := s.z80PC + 3
      z80R := advanceR 2 s.z80R } := by
  obtain ⟨hr, hb⟩ := h
  have h1 : AtRest (effectLdHlN v { s with
      dbusOut := v
      pinTrace := s.pinTrace ++ ldHlNEvents v
      pulseTotal := s.pulseTotal + 10 }) := hr
  rw [storeAndAdvance, forcedInstruction, runSchedule_ldHlN hr, andThen_next, if_pos hb, andThen_next,
    forcedInstruction, runSchedule_incHl h1]
  simp [effectLdHlN, effectIncHl, hb, writeEvents, BitVec.add_assoc]

/-- A write at the cursor in an open session (R113). -/
theorem writeByte_ready {s : State} (h : Ready s) (hl : s.hlLoaded = true) (v : Byte) :
    writeByte s.z80HL v s = .next { s with
      dbusOut := 0x23
      pinTrace := s.pinTrace ++ writeEvents v
      pulseTotal := s.pulseTotal + 16
      memory := s.memory.write s.z80HL.toNat v
      z80HL := s.z80HL + 1
      z80PC := s.z80PC + 3
      z80R := advanceR 2 s.z80R } := by
  rw [writeByte, if_pos h.2, if_neg (by simp [hl]), if_neg (by simp), storeAndAdvance_ready h]

/-- Where a write completes in an open session: exactly at the cursor, HL being loaded (R113; U4). -/
theorem writeByte_eq_next {s t : State} {a : Word} {v : Byte} (h : Ready s) (ht : writeByte a v s = .next t) :
    s.hlLoaded = true ∧ s.z80HL = a ∧ storeAndAdvance v s = .next t := by
  rw [writeByte, if_pos h.2] at ht
  split at ht
  · cases ht
  · split at ht
    · cases ht
    · rename_i h1 h2
      exact ⟨by simpa using h1, by simpa using h2, ht⟩

/-- `resetCpu` from an operation boundary (R110): its schedule, then what it leaves. -/
theorem resetCpu_atRest {s : State} (h : AtRest s) :
    resetCpu s = .next (effectResetCpu { s with
      rst := .released, pinTrace := s.pinTrace ++ resetEvents, pulseTotal := s.pulseTotal + 8 }) := by
  obtain ⟨h1, h2, h3⟩ := h
  cases s
  simp_all [resetCpu, scheduleResetCpu, runSchedule, runOp, busFight, pulse, assertReset, releaseReset,
    resetEvents, pulses, List.replicate, nResetAsserted, nResetReleased]

/-! ## Desynced -/

/-- The state after a `readByte` while desynced (R120; U1). -/
def afterReadDesynced (address : Word) (s : State) : State :=
  { s with
    ramOvr := .released
    dbusDir := .inPullup
    dbusOut := 0x7E
    pinTrace := s.pinTrace ++ readEvents address (Config.freeByte (s.freeTick + 1))
    pulseTotal := s.pulseTotal + 17
    z80HL := Config.freeHL (s.freeTick + 1)
    z80A := Config.freeA (s.freeTick + 1)
    z80PC := Config.freePC (s.freeTick + 1)
    z80F := Config.freeF (s.freeTick + 1)
    z80R := Config.freeR (s.freeTick + 1)
    z80IntEnable := Config.freeIntEnable (s.freeTick + 1)
    z80IntMode := Config.freeIntMode (s.freeTick + 1)
    memory := (s.memory.writeAll (Config.scramble s.freeTick)).writeAll (Config.scramble (s.freeTick + 1))
    readTrace := s.readTrace ++ [address]
    freeTick := s.freeTick + 2
    z80Place := .unknown }

theorem desynced_of_atRest {s : State} (h : AtRest s) (hb : s.sync ≠ .boundary) : Desynced s :=
  ⟨h.1, by simp [h.2.2], hb⟩

/-- A `loadIndexRegister` while desynced (U1). -/
theorem loadIndexRegister_desynced {s : State} (h : Desynced s) (v : Word) :
    loadIndexRegister v s = .next (garble { s with
      ramOvr := .released, dbusDir := .inPullup
      dbusOut := hi8 v, pinTrace := s.pinTrace ++ loadEvents v, pulseTotal := s.pulseTotal + 10 }) := by
  simp [loadIndexRegister, forcedInstruction, runSchedule_ldHlNn_desynced h, h.2.2]

theorem readByte_desynced {s : State} (h : Desynced s) (address : Word) :
    readByte address s = .next (Config.freeByte (s.freeTick + 1), afterReadDesynced address s) := by
  have h1 : AtRest (garble { s with
      ramOvr := .released, dbusDir := .inPullup, dbusOut := hi8 address
      pinTrace := s.pinTrace ++ loadEvents address, pulseTotal := s.pulseTotal + 10 }) := ⟨h.1, rfl, rfl⟩
  rw [readByte, loadIndexRegister_desynced h, andThen_next, forcedInstruction, runSchedule_ldAHl h1]
  simp [garble, garbleRegisters, sampledByte, h.2.2, afterReadDesynced, readEvents]

theorem desynced_afterReadDesynced {s : State} (h : Desynced s) (address : Word) :
    Desynced (afterReadDesynced address s) := desynced_of_atRest ⟨h.1, rfl, rfl⟩ h.2.2

/-- A run of reads while desynced: it completes with its exact pulses and pin events, reads free values, leaves the pins
at rest and `sync` as it was, and keeps the canonical form of memory (U1). -/
theorem readBytes_desynced (n : Nat) {s : State} (h : Desynced s) (a : Word) :
    ∃ t, readBytes n a s = .next ((List.range n).map (fun k => Config.freeByte (s.freeTick + 2 * k + 1)), t) ∧
      Desynced t ∧ (n ≠ 0 → AtRest t ∧ t.z80Place = .unknown) ∧ t.sync = s.sync ∧ t.rst = s.rst ∧ t.pc = s.pc ∧ t.calls = s.calls ∧
      t.returned = s.returned ∧ t.hlLoaded = s.hlLoaded ∧ t.freeTick = s.freeTick + 2 * n ∧ t.pulseTotal = s.pulseTotal + 17 * n ∧
      t.readTrace = s.readTrace ++ (List.range n).map (fun k => a + BitVec.ofNat 16 k) ∧
      t.pinTrace = s.pinTrace ++ (List.range n).flatMap (fun k =>
        readEvents (a + BitVec.ofNat 16 k) (Config.freeByte (s.freeTick + 2 * k + 1))) ∧
      (s.memory.wf = true → t.memory.wf = true) := by
  induction n generalizing s a with
  | zero => exact ⟨s, by simp [readBytes], h, by simp, by simp⟩
  | succ n ih =>
    obtain ⟨t, ht, hd, ha, h1, h2, h3, h4, h5, h6, h7, h8, h9, h10, h11⟩ :=
      ih (desynced_afterReadDesynced h a) (a + 1)
    have e : ∀ k, a + 1 + BitVec.ofNat 16 k = a + BitVec.ofNat 16 (k + 1) := by
      intro k; rw [BitVec.add_assoc, Nat.add_comm k 1, BitVec.ofNat_add]; rfl
    have z : a + BitVec.ofNat 16 0 = a := by simp
    have f : ∀ k, s.freeTick + 2 + 2 * k + 1 = s.freeTick + 2 * (k + 1) + 1 := by intro k; ring
    refine ⟨t, ?_, hd, fun _ => ?_, h1, h2, h3, h4, h5, h6, ?_, ?_, ?_, ?_, ?_⟩
    · rw [readBytes, readByte_desynced h, andThen_next, ht, andThen_next, List.range_succ_eq_map]
      simp only [afterReadDesynced, f, List.map_cons, List.map_map, Function.comp_def]
    · cases n with
      | zero =>
        obtain rfl : afterReadDesynced a s = t := by simpa [readBytes] using ht
        exact ⟨⟨h.1, rfl, rfl⟩, rfl⟩
      | succ n => exact ha (by simp)
    · rw [h7]; simp only [afterReadDesynced]; ring
    · rw [h8]; simp only [afterReadDesynced]; ring
    · rw [h9, List.range_succ_eq_map]
      simp only [afterReadDesynced, e, z, List.map_cons, List.map_map, Function.comp_def, List.append_assoc,
        List.singleton_append, Nat.succ_eq_add_one]
    · rw [h10, List.range_succ_eq_map]
      simp only [afterReadDesynced, e, f, z, List.flatMap_cons, List.flatMap_map, List.append_assoc,
        Nat.succ_eq_add_one, Nat.mul_zero, Nat.add_zero]
    · exact fun hm => h11 (Memory.wf_writeAll (Memory.wf_writeAll hm _) _)

/-- A decode of at least one read while desynced (U1): it completes, with its exact pulses, leaves the pins at rest, and
returns its text and length; where the Z80 then stands is not known. -/
theorem present_desynced {s : State} (h : Desynced s) (pfx : PrefixClass) (opcode : Byte) (text : Text)
    (len reads : Nat) (hr : reads ≠ 0) :
    ∃ t, present pfx opcode text len reads s = .next t ∧ AtRest t ∧ t.sync = s.sync ∧ t.rst = s.rst ∧
      t.calls = s.calls ∧ t.hlLoaded = s.hlLoaded ∧ t.freeTick = s.freeTick + 2 * reads ∧
      t.pulseTotal = s.pulseTotal + 17 * reads ∧
      t.readTrace = s.readTrace ++ (List.range reads).map (fun k => s.pc + BitVec.ofNat 16 k) ∧
      t.pinTrace = s.pinTrace ++ (List.range reads).flatMap (fun k =>
        readEvents (s.pc + BitVec.ofNat 16 k) (Config.freeByte (s.freeTick + 2 * k + 1))) ∧
      (s.memory.wf = true → t.memory.wf = true) ∧ t.pc = s.pc + BitVec.ofNat 16 len ∧
      t.returned = some (.decoded ⟨pfx, fields opcode, text, len, s.pc + BitVec.ofNat 16 len⟩) ∧
      t.z80Place = .unknown := by
  obtain ⟨t, ht, -, ha, h1, h2, -, h4, -, h6, h7, h8, h9, h10, h11⟩ := readBytes_desynced reads h s.pc
  exact ⟨{ t with
      pc := s.pc + BitVec.ofNat 16 len
      returned := some (.decoded ⟨pfx, fields opcode, text, len, s.pc + BitVec.ofNat 16 len⟩) },
    by simp only [present, ht, andThen_next], (ha hr).1, h1, h2, h4, h6, h7, h8, h9, h10, h11, rfl, rfl, (ha hr).2⟩

/-- The two forced instructions of a write while desynced (U1). -/
theorem storeAndAdvance_desynced {s : State} (h : Desynced s) (v : Byte) :
    storeAndAdvance v s = .next (garble (garble { s with
      ramOvr := .released
      dbusDir := .inPullup
      dbusOut := 0x23
      pinTrace := s.pinTrace ++ writeEvents v
      pulseTotal := s.pulseTotal + 16 })) := by
  have h1 : AtRest (garble { s with
      ramOvr := .released
      dbusDir := .inPullup
      dbusOut := v
      pinTrace := s.pinTrace ++ ldHlNEvents v
      pulseTotal := s.pulseTotal + 10 }) := ⟨h.1, rfl, rfl⟩
  rw [storeAndAdvance, forcedInstruction, runSchedule_ldHlN_desynced h, andThen_next, if_neg h.2.2, andThen_next,
    forcedInstruction, runSchedule_incHl h1]
  simp [garble, garbleRegisters, h.2.2, writeEvents]

/-! ## Overridden -/

/-- At a Boundary with the override asserted no read is made. -/
theorem readBytes_overridden {s : State} (hc : s.clk = .low) (hf : s.ramOvr = .asserted) (hb : s.sync = .boundary)
    (n : Nat) (a : Word) : readBytes (n + 1) a s = .refused .overrideAlreadyAsserted := by
  simp [readBytes, readByte, loadIndexRegister, scheduleLdHlNn, forcedInstruction_overridden hc hf hb]

end Sys2Proof.Machine
end

