-- ==== Sys2Proof/Laws/Decode.lean ====
section
/-! SUPPORT. The bitfield extractor and the two-byte operands, each with its inverse; the decode of a list whose first bytes
are known; and that what is decoded is well formed. -/

namespace Sys2Proof

@[simp] theorem fields_op (x : Fin 4) (y z : Fin 8) : fields (op x y z) = ⟨x, y, z⟩ := by
  revert x y z; decide

theorem op_fields (b : Byte) : op (fields b).x (fields b).y (fields b).z = b := by
  revert b; decide

@[simp] theorem Fields.p_mk (x : Fin 4) (p : Fin 4) (q : Fin 2) (z : Fin 8) : Fields.p ⟨x, ofPQ p q, z⟩ = p := by
  revert x p q z; decide

@[simp] theorem Fields.q_mk (x : Fin 4) (p : Fin 4) (q : Fin 2) (z : Fin 8) : Fields.q ⟨x, ofPQ p q, z⟩ = q := by
  revert x p q z; decide

theorem ofPQ_p_q (f : Fields) : ofPQ f.p f.q = f.y := by
  obtain ⟨x, y, z⟩ := f
  revert x y z; decide

theorem wordOf_toNat (a b : Byte) : (wordOf a b).toNat = a.toNat * 256 + b.toNat := by
  have h : (wordOf a b).toNat = a.toNat <<< 8 ||| b.toNat := BitVec.toNat_append a b
  rw [h, ← Nat.shiftLeft_add_eq_or_of_lt b.isLt, Nat.shiftLeft_eq]

@[simp] theorem lo8_wordOf (a b : Byte) : lo8 (wordOf a b) = b := by
  apply BitVec.eq_of_toNat_eq
  have := b.isLt
  simp only [lo8, BitVec.extractLsb'_toNat, wordOf_toNat, Nat.shiftRight_zero]
  omega

@[simp] theorem hi8_wordOf (a b : Byte) : hi8 (wordOf a b) = a := by
  apply BitVec.eq_of_toNat_eq
  have := a.isLt
  have := b.isLt
  simp only [hi8, BitVec.extractLsb'_toNat, wordOf_toNat, Nat.shiftRight_eq_div_pow]
  omega

@[simp] theorem wordOf_hi8_lo8 (w : Word) : wordOf (hi8 w) (lo8 w) = w := by
  apply BitVec.eq_of_toNat_eq
  have := w.isLt
  simp only [wordOf_toNat, hi8, lo8, BitVec.extractLsb'_toNat, Nat.shiftRight_eq_div_pow]
  omega

/-- The 16-bit operand is stored low byte first. -/
theorem operandWord_eq (first second : Byte) : operandWord first second = wordOf second first := by
  simp [operandWord, swap16]

@[simp] theorem operandWord_lo8_hi8 (nn : Word) : operandWord (lo8 nn) (hi8 nn) = nn := by
  simp [operandWord_eq]

@[simp] theorem lo8_operandWord (a b : Byte) : lo8 (operandWord a b) = a := by simp [operandWord_eq]

@[simp] theorem hi8_operandWord (a b : Byte) : hi8 (operandWord a b) = b := by simp [operandWord_eq]

/-! ## The decode of a list whose first bytes are known: one lemma per number of bytes read -/

theorem decodeBytes_one {b0 : Byte} (tail : List Byte) (hr : ∀ b, readsOf b0 b = 1) (hl : ∀ b, lengthOf b0 b = 1) :
    decodeBytes (b0 :: tail) = .ok (decode b0 (byteAt tail 0) (byteAt tail 1) (byteAt tail 2), tail) := by
  simp [decodeBytes, byteAt, hr, hl]

theorem decodeBytes_two {b0 b1 : Byte} (tail : List Byte) (hr : readsOf b0 b1 = 2) :
    decodeBytes (b0 :: b1 :: tail) =
      .ok (decode b0 b1 (byteAt tail 0) (byteAt tail 1), (b0 :: b1 :: tail).drop (lengthOf b0 b1)) := by
  simp [decodeBytes, byteAt, hr]

theorem decodeBytes_three {b0 b1 b2 : Byte} (tail : List Byte) (hr : readsOf b0 b1 = 3) :
    decodeBytes (b0 :: b1 :: b2 :: tail) =
      .ok (decode b0 b1 b2 (byteAt tail 0), (b0 :: b1 :: b2 :: tail).drop (lengthOf b0 b1)) := by
  simp [decodeBytes, byteAt, hr]

theorem decodeBytes_four {b0 b1 b2 b3 : Byte} (tail : List Byte) (hr : readsOf b0 b1 ≤ 4) :
    decodeBytes (b0 :: b1 :: b2 :: b3 :: tail) =
      .ok (decode b0 b1 b2 b3, (b0 :: b1 :: b2 :: b3 :: tail).drop (lengthOf b0 b1)) := by
  have h : ∀ n, n ≤ 4 → ((b0 :: b1 :: b2 :: b3 :: tail).drop (n - 1)).isEmpty = false := by
    intro n hn
    interval_cases n <;> rfl
  simp [decodeBytes, byteAt, h _ hr]

/-! ## What is decoded is well formed, map by map -/

theorem wellFormed_decodeX0 (f : Fields) (b1 b2 : Byte) : wellFormed (decodeX0 f b1 b2) = true := by
  unfold decodeX0
  repeat' split
  all_goals first | rfl | simp [wellFormed, isRegister, isJrCondition, *]

theorem wellFormed_decodeX1 (f : Fields) : wellFormed (decodeX1 f) = true := by
  unfold decodeX1
  repeat' split
  all_goals first | rfl | simp [wellFormed, isRegister, *]

theorem wellFormed_decodeX2 (f : Fields) : wellFormed (decodeX2 f) = true := by
  unfold decodeX2
  repeat' split
  all_goals first | rfl | simp [wellFormed, isRegister, *]

theorem wellFormed_decodeCb (b : Byte) : wellFormed (decodeCb b) = true := by
  unfold decodeCb; split <;> (try split) <;> rfl

theorem wellFormed_decodeXcb (ir d) (b : Byte) : wellFormed (decodeXcb ir d b) = true := by
  unfold decodeXcb; split <;> (try split) <;> rfl

theorem wellFormed_decodeEdX1 (f : Fields) (b2 b3 : Byte) : wellFormed (decodeEdX1 f b2 b3) = true := by
  unfold decodeEdX1
  repeat' split
  all_goals first | rfl | simp [wellFormed, isRegister, isRetn, isTopPair, *]

theorem wellFormed_decodeEdX2 (f : Fields) : wellFormed (decodeEdX2 f) = true := by
  obtain ⟨x, y, z⟩ := f
  fin_cases y <;> fin_cases z <;> rfl

theorem wellFormed_decodeEd (b b2 b3 : Byte) : wellFormed (decodeEd b b2 b3) = true := by
  unfold decodeEd
  split
  · rfl
  · exact wellFormed_decodeEdX1 _ _ _
  · exact wellFormed_decodeEdX2 _
  · rfl

theorem wellFormed_decodeX3 {c e : Instr} {i : IndexReg → Instr} (hc : wellFormed c = true)
    (he : wellFormed e = true) (hi : ∀ ir, wellFormed (i ir) = true) (f : Fields) (b1 b2 : Byte) :
    wellFormed (decodeX3 c e i f b1 b2) = true := by
  unfold decodeX3
  repeat' split
  all_goals first | rfl | assumption | exact hi _

theorem wellFormed_decodeUnprefixed {c e : Instr} {i : IndexReg → Instr} (hc : wellFormed c = true)
    (he : wellFormed e = true) (hi : ∀ ir, wellFormed (i ir) = true) (b b1 b2 : Byte) :
    wellFormed (decodeUnprefixed c e i b b1 b2) = true := by
  unfold decodeUnprefixed
  split
  · exact wellFormed_decodeX0 _ _ _
  · exact wellFormed_decodeX1 _
  · exact wellFormed_decodeX2 _
  · exact wellFormed_decodeX3 hc he hi _ _ _

theorem wellFormed_indexForm (ir b2 b3 i) (h : wellFormed i = true) : wellFormed (indexForm ir b2 b3 i) = true := by
  cases i
  case ldRpNn p nn => unfold indexForm; dsimp only; split <;> simp_all [wellFormed, isPassPair]
  case incRp p => unfold indexForm; dsimp only; split <;> simp_all [wellFormed, isPassPair]
  case decRp p => unfold indexForm; dsimp only; split <;> simp_all [wellFormed, isPassPair]
  case popRp2 p => unfold indexForm; dsimp only; split <;> simp_all [wellFormed, isPassPair]
  case pushRp2 p => unfold indexForm; dsimp only; split <;> simp_all [wellFormed, isPassPair]
  all_goals exact h

theorem wellFormed_decode (b0 b1 b2 b3 : Byte) : wellFormed (decode b0 b1 b2 b3) = true :=
  wellFormed_decodeUnprefixed (wellFormed_decodeCb _) (wellFormed_decodeEd _ _ _)
    (fun _ => wellFormed_indexForm _ _ _ _
      (wellFormed_decodeUnprefixed (wellFormed_decodeXcb _ _ _) rfl (fun _ => rfl) _ _ _)) _ _ _

end Sys2Proof
end

