-- ==== Sys2Proof/Laws/Contract.lean ====
section
/-! SUPPORT. The output contract of a decode, text by text: the pieces a text is built of, and that every well-formed
instruction, hence whatever stands at the cursor, meets the contract. -/

namespace Sys2Proof.Machine

/-! ## Pieces of text -/

/-- A piece of a text: its length lies between `low` and `high` and it holds no lower-case letter. -/
def Piece (low high : Nat) (t : Text) : Prop := low ≤ t.length ∧ t.length ≤ high ∧ ∀ c ∈ t, c.isLower = false

theorem Piece.append {l h l' h' : Nat} {t u : Text} (p : Piece l h t) (q : Piece l' h' u) :
    Piece (l + l') (h + h') (t ++ u) := by
  obtain ⟨p1, p2, p3⟩ := p
  obtain ⟨q1, q2, q3⟩ := q
  refine ⟨by simp; omega, by simp; omega, fun c hc => ?_⟩
  rcases List.mem_append.mp hc with hc | hc
  · exact p3 c hc
  · exact q3 c hc

/-- A closed text is a piece of its own length. -/
theorem piece_closed (t : Text) (h : t.all (fun c => !c.isLower) = true) : Piece t.length t.length t :=
  ⟨le_rfl, le_rfl, by simpa using h⟩

/-- A piece, its three conditions checked at once. -/
theorem piece_check {low high : Nat} {t : Text}
    (h : (Nat.ble low t.length && Nat.ble t.length high && t.all (fun c => !c.isLower)) = true) : Piece low high t := by
  simp only [Bool.and_eq_true, Nat.ble_eq, List.all_eq_true, Bool.not_eq_true'] at h
  exact ⟨h.1.1, h.1.2, h.2⟩

theorem isLower_hexDigit (n : Nat) : (hexDigit n).isLower = false := by
  by_cases h : n < 16
  · interval_cases n <;> decide
  · rw [hexDigit, List.getD_eq_default]
    · decide
    · simp [txt]; omega

theorem piece_hex2 (v : Byte) : Piece 2 2 (hex2 v) :=
  ⟨le_rfl, le_rfl, by simp [hex2, isLower_hexDigit]⟩

theorem piece_hex4 (w : Word) : Piece 4 4 (hex4 w) := (piece_hex2 _).append (piece_hex2 _)

theorem piece_dec1 (y : Fin 8) : Piece 1 1 (dec1 y) := by fin_cases y <;> exact piece_check rfl

theorem piece_register8 (y : Fin 8) : Piece 1 4 (register8 y) := by fin_cases y <;> exact piece_check rfl

theorem piece_register {y : Fin 8} (h : isRegister y = true) : Piece 1 1 (register8 y) := by
  fin_cases y <;> first | exact piece_check rfl | exact nomatch h

theorem piece_registerPair16 (p : Fin 4) : Piece 2 2 (registerPair16 p) := by fin_cases p <;> exact piece_check rfl

theorem piece_registerPair16Alt (p : Fin 4) : Piece 2 2 (registerPair16Alt p) := by fin_cases p <;> exact piece_check rfl

theorem piece_condition (y : Fin 8) : Piece 1 2 (condition y) := by fin_cases y <;> exact piece_check rfl

theorem piece_interruptMode (p : Fin 4) : Piece 1 3 (interruptMode p) := by fin_cases p <;> exact piece_check rfl

theorem piece_aluOp (y : Fin 8) : Piece 3 6 (aluOp y) := by fin_cases y <;> exact piece_check rfl

theorem piece_rotateOp (y : Fin 8) : Piece 2 3 (rotateOp y) := by fin_cases y <;> exact piece_check rfl

theorem piece_accumulatorFlagOp (y : Fin 8) : Piece 3 4 (accumulatorFlagOp y) := by fin_cases y <;> exact piece_check rfl

theorem piece_bitOp (x : Fin 3) : Piece 3 3 (bitOp x) := by fin_cases x <;> exact piece_check rfl

theorem piece_blockOp (y z : Fin 4) : Piece 3 4 (blockOp y z) := by fin_cases y <;> fin_cases z <;> exact piece_check rfl

theorem piece_indirectStore0 : Piece 9 9 (indirectStore 0) := piece_check rfl

theorem piece_indirectStore1 : Piece 9 9 (indirectStore 1) := piece_check rfl

theorem piece_indirectLoad0 : Piece 9 9 (indirectLoad 0) := piece_check rfl

theorem piece_indirectLoad1 : Piece 9 9 (indirectLoad 1) := piece_check rfl

theorem piece_indexName (ir : IndexReg) : Piece 2 2 (indexName ir) := by cases ir <;> exact piece_check rfl

theorem piece_txt (s : String) (h : (txt s).all (fun c => !c.isLower) = true) :
    Piece (txt s).length (txt s).length (txt s) := piece_closed _ h

theorem piece_indexed (ir : IndexReg) (d : Byte) : Piece 7 7 (indexed ir d) :=
  ((((piece_txt "(" rfl).append (piece_indexName ir)).append (piece_txt "+" rfl)).append (piece_hex2 d)).append
    (piece_txt ")" rfl)

theorem piece_indexedOrRegister (ir : IndexReg) (d : Byte) (z : Fin 8) : Piece 1 7 (indexedOrRegister ir d z) := by
  unfold indexedOrRegister
  split
  · obtain ⟨h1, h2, h3⟩ := piece_indexed ir d; exact ⟨by omega, h2, h3⟩
  · obtain ⟨h1, h2, h3⟩ := piece_register8 z; exact ⟨h1, by omega, h3⟩

theorem piece_pairOrIndex (ir : IndexReg) (p : Fin 4) : Piece 2 2 (pairOrIndex ir p) := by
  unfold pairOrIndex
  split
  · exact piece_indexName ir
  · exact piece_registerPair16 p

theorem piece_fillStore2 (nn : Word) : Piece 12 12 (fillNn nn (indirectStore 2)) :=
  ((piece_txt "LD (" rfl).append (piece_hex4 nn)).append (piece_txt "),HL" rfl)

theorem piece_fillStore3 (nn : Word) : Piece 11 11 (fillNn nn (indirectStore 3)) :=
  ((piece_txt "LD (" rfl).append (piece_hex4 nn)).append (piece_txt "),A" rfl)

theorem piece_fillLoad2 (nn : Word) : Piece 12 12 (fillNn nn (indirectLoad 2)) :=
  ((piece_txt "LD HL,(" rfl).append (piece_hex4 nn)).append (piece_txt ")" rfl)

theorem piece_fillLoad3 (nn : Word) : Piece 11 11 (fillNn nn (indirectLoad 3)) :=
  ((piece_txt "LD A,(" rfl).append (piece_hex4 nn)).append (piece_txt ")" rfl)

theorem ok_of_piece {pfx : PrefixClass} {opcode : Byte} {text : Text} {len low high : Nat}
    (h : Piece low high text) (h2 : 2 ≤ low) (h13 : high ≤ 13) (h1 : 1 ≤ len) (h4 : len ≤ 4)
    (hcb : pfx = .cb → len = 2)
    (hed : pfx = .ed → ((fields opcode).x = 0 ∨ (fields opcode).x = 3) → text = "NOP".toList)
    (a : Word) : Decoded.ok ⟨pfx, fields opcode, text, len, a⟩ where
  text_nonempty := by rintro rfl; have := h.1; simp at this; omega
  len_min := h1
  len_max := h4
  no_placeholder := h.2.2
  cb_len := hcb
  ed_nop := hed
  text_min := h2.trans h.1
  text_max := h.2.1.trans h13

/-- A meaning that is one decode with at most four reads, whose return meets the output contract. -/
def MeetsContract (meaning : State → Result) : Prop :=
  ∃ (pfx : PrefixClass) (opcode : Byte) (text : Text) (len reads : Nat),
    (∀ s, meaning s = present pfx opcode text len (reads + 1) s) ∧ reads ≤ 3 ∧
      ∀ a, Decoded.ok ⟨pfx, fields opcode, text, len, a⟩

/-! ## Meanings that meet the contract -/

/-- The bounds of a form's text and length. -/
def bounds (low high len : Nat) : Bool := Nat.ble 2 low && Nat.ble high 13 && Nat.ble 1 len && Nat.ble len 4

theorem of_bounds {low high len : Nat} (c : bounds low high len = true) : 2 ≤ low ∧ high ≤ 13 ∧ 1 ≤ len ∧ len ≤ 4 := by
  simpa [bounds, and_assoc] using c

/-- A meaning that reads as many bytes as the instruction has. -/
theorem meets {pfx : PrefixClass} {opcode : Byte} {text : Text} {len low high : Nat} (p : Piece low high text)
    (c : bounds low high len = true) (hcb : pfx = .cb → len = 2)
    (hed : pfx = .ed → ((fields opcode).x = 0 ∨ (fields opcode).x = 3) → text = "NOP".toList) :
    MeetsContract (present pfx opcode text len len) := by
  obtain ⟨c1, c2, c3, c4⟩ := of_bounds c
  exact ⟨pfx, opcode, text, len, len - 1, fun _ => by rw [Nat.sub_add_cancel c3], by omega,
    ok_of_piece p c1 c2 c3 c4 hcb hed⟩

theorem meets_unprefixed {opcode : Byte} {text : Text} {len low high : Nat} (p : Piece low high text)
    (c : bounds low high len = true) : MeetsContract (presentUnprefixed opcode text len) := meets p c nofun nofun

theorem meets_cb {opcode : Byte} {text : Text} {low high : Nat} (p : Piece low high text)
    (c : bounds low high 2 = true) : MeetsContract (presentCb opcode text) := meets p c (fun _ => rfl) nofun

theorem meets_ed {x : Fin 4} {y z : Fin 8} {text : Text} {len low high : Nat} (p : Piece low high text)
    (c : (bounds low high len && (x == 1 || x == 2)) = true) : MeetsContract (presentEd (op x y z) text len) := by
  simp only [Bool.and_eq_true, Bool.or_eq_true, beq_iff_eq] at c
  refine meets p c.1 nofun fun _ h => ?_
  rw [fields_op] at h
  obtain ⟨-, rfl | rfl⟩ := c <;> simp at h

theorem meets_edNop {opcode : Byte} : MeetsContract (presentEd opcode (txt "NOP") 2) :=
  meets (piece_txt "NOP" rfl) rfl nofun fun _ _ => rfl

theorem meets_index {ir : IndexReg} {opcode : Byte} {text : Text} {len low high : Nat} (p : Piece low high text)
    (c : bounds low high len = true) : MeetsContract (presentIndex ir opcode text len) := meets p c nofun nofun

theorem meets_lone {ir : IndexReg} {looked : Byte} {text : Text} {low high : Nat} (p : Piece low high text)
    (c : bounds low high 1 = true) : MeetsContract (presentLonePrefix ir looked text) :=
  let c := of_bounds c
  ⟨_, _, _, _, 1, fun _ => rfl, by decide, ok_of_piece p c.1 c.2.1 (by decide) (by decide) nofun nofun⟩

/-- Every well-formed instruction meets the output contract (49_disassembler.md R364). -/
theorem exec_meetsContract (i : Instr) (hw : wellFormed i = true) : MeetsContract (exec i) := by
  cases i with
  | nop => exact meets_unprefixed (piece_txt "NOP" rfl) rfl
  | exAfAf => exact meets_unprefixed (piece_txt "EX AF,AF'" rfl) rfl
  | djnz => exact meets_unprefixed ((piece_txt "DJNZ " rfl).append (piece_hex2 _)) rfl
  | jr => exact meets_unprefixed ((piece_txt "JR " rfl).append (piece_hex2 _)) rfl
  | jrCc => exact meets_unprefixed ((((piece_txt "JR " rfl).append (piece_condition _)).append 
      (piece_txt "," rfl)).append (piece_hex2 _)) rfl
  | ldRpNn => exact meets_unprefixed ((((piece_txt "LD " rfl).append (piece_registerPair16 _)).append 
      (piece_txt "," rfl)).append (piece_hex4 _)) rfl
  | addHlRp => exact meets_unprefixed ((piece_txt "ADD HL," rfl).append (piece_registerPair16 _)) rfl
  | ldBcA => exact meets_unprefixed piece_indirectStore0 rfl
  | ldDeA => exact meets_unprefixed piece_indirectStore1 rfl
  | ldNnHl => exact meets_unprefixed (piece_fillStore2 _) rfl
  | ldNnA => exact meets_unprefixed (piece_fillStore3 _) rfl
  | ldABc => exact meets_unprefixed piece_indirectLoad0 rfl
  | ldADe => exact meets_unprefixed piece_indirectLoad1 rfl
  | ldHlNni => exact meets_unprefixed (piece_fillLoad2 _) rfl
  | ldANni => exact meets_unprefixed (piece_fillLoad3 _) rfl
  | incRp => exact meets_unprefixed ((piece_txt "INC " rfl).append (piece_registerPair16 _)) rfl
  | decRp => exact meets_unprefixed ((piece_txt "DEC " rfl).append (piece_registerPair16 _)) rfl
  | incR => exact meets_unprefixed ((piece_txt "INC " rfl).append (piece_register8 _)) rfl
  | incM => exact meets_unprefixed ((piece_txt "INC " rfl).append (piece_register8 _)) rfl
  | decR => exact meets_unprefixed ((piece_txt "DEC " rfl).append (piece_register8 _)) rfl
  | decM => exact meets_unprefixed ((piece_txt "DEC " rfl).append (piece_register8 _)) rfl
  | ldRN => exact meets_unprefixed ((((piece_txt "LD " rfl).append (piece_register8 _)).append 
      (piece_txt "," rfl)).append (piece_hex2 _)) rfl
  | ldMN => exact meets_unprefixed ((piece_txt "LD (HL)," rfl).append (piece_hex2 _)) rfl
  | rlca => exact meets_unprefixed (piece_accumulatorFlagOp _) rfl
  | rrca => exact meets_unprefixed (piece_accumulatorFlagOp _) rfl
  | rla => exact meets_unprefixed (piece_accumulatorFlagOp _) rfl
  | rra => exact meets_unprefixed (piece_accumulatorFlagOp _) rfl
  | daa => exact meets_unprefixed (piece_accumulatorFlagOp _) rfl
  | cpl => exact meets_unprefixed (piece_accumulatorFlagOp _) rfl
  | scf => exact meets_unprefixed (piece_accumulatorFlagOp _) rfl
  | ccf => exact meets_unprefixed (piece_accumulatorFlagOp _) rfl
  | ldRR => exact meets_unprefixed ((((piece_txt "LD " rfl).append (piece_register8 _)).append 
      (piece_txt "," rfl)).append (piece_register8 _)) rfl
  | ldRM => exact meets_unprefixed (((piece_txt "LD " rfl).append (piece_register8 _)).append 
      (piece_txt ",(HL)" rfl)) rfl
  | ldMR => exact meets_unprefixed ((piece_txt "LD (HL)," rfl).append (piece_register8 _)) rfl
  | halt => exact meets_unprefixed (piece_txt "HALT" rfl) rfl
  | addR => exact meets_unprefixed ((piece_aluOp _).append (piece_register8 _)) rfl
  | addM => exact meets_unprefixed ((piece_aluOp _).append (piece_register8 _)) rfl
  | adcR => exact meets_unprefixed ((piece_aluOp _).append (piece_register8 _)) rfl
  | adcM => exact meets_unprefixed ((piece_aluOp _).append (piece_register8 _)) rfl
  | subR => exact meets_unprefixed ((piece_aluOp _).append (piece_register8 _)) rfl
  | subM => exact meets_unprefixed ((piece_aluOp _).append (piece_register8 _)) rfl
  | sbcR => exact meets_unprefixed ((piece_aluOp _).append (piece_register8 _)) rfl
  | sbcM => exact meets_unprefixed ((piece_aluOp _).append (piece_register8 _)) rfl
  | andR => exact meets_unprefixed ((piece_aluOp _).append (piece_register8 _)) rfl
  | andM => exact meets_unprefixed ((piece_aluOp _).append (piece_register8 _)) rfl
  | xorR => exact meets_unprefixed ((piece_aluOp _).append (piece_register8 _)) rfl
  | xorM => exact meets_unprefixed ((piece_aluOp _).append (piece_register8 _)) rfl
  | orR => exact meets_unprefixed ((piece_aluOp _).append (piece_register8 _)) rfl
  | orM => exact meets_unprefixed ((piece_aluOp _).append (piece_register8 _)) rfl
  | cpR => exact meets_unprefixed ((piece_aluOp _).append (piece_register8 _)) rfl
  | cpM => exact meets_unprefixed ((piece_aluOp _).append (piece_register8 _)) rfl
  | retCc => exact meets_unprefixed ((piece_txt "RET " rfl).append (piece_condition _)) rfl
  | popRp2 => exact meets_unprefixed ((piece_txt "POP " rfl).append (piece_registerPair16Alt _)) rfl
  | ret => exact meets_unprefixed (piece_txt "RET" rfl) rfl
  | exx => exact meets_unprefixed (piece_txt "EXX" rfl) rfl
  | jpHl => exact meets_unprefixed (piece_txt "JP (HL)" rfl) rfl
  | ldSpHl => exact meets_unprefixed (piece_txt "LD SP,HL" rfl) rfl
  | jpCcNn => exact meets_unprefixed ((((piece_txt "JP " rfl).append (piece_condition _)).append 
      (piece_txt "," rfl)).append (piece_hex4 _)) rfl
  | jpNn => exact meets_unprefixed ((piece_txt "JP " rfl).append (piece_hex4 _)) rfl
  | outNA => exact meets_unprefixed (((piece_txt "OUT (" rfl).append (piece_hex2 _)).append 
      (piece_txt "),A" rfl)) rfl
  | inAN => exact meets_unprefixed (((piece_txt "IN A,(" rfl).append (piece_hex2 _)).append (piece_txt ")" rfl)) rfl
  | exSpHl => exact meets_unprefixed (piece_txt "EX (SP),HL" rfl) rfl
  | exDeHl => exact meets_unprefixed (piece_txt "EX DE,HL" rfl) rfl
  | di => exact meets_unprefixed (piece_txt "DI" rfl) rfl
  | ei => exact meets_unprefixed (piece_txt "EI" rfl) rfl
  | callCcNn => exact meets_unprefixed ((((piece_txt "CALL " rfl).append (piece_condition _)).append 
      (piece_txt "," rfl)).append (piece_hex4 _)) rfl
  | pushRp2 => exact meets_unprefixed ((piece_txt "PUSH " rfl).append (piece_registerPair16Alt _)) rfl
  | callNn => exact meets_unprefixed ((piece_txt "CALL " rfl).append (piece_hex4 _)) rfl
  | addN => exact meets_unprefixed ((piece_aluOp _).append (piece_hex2 _)) rfl
  | adcN => exact meets_unprefixed ((piece_aluOp _).append (piece_hex2 _)) rfl
  | subN => exact meets_unprefixed ((piece_aluOp _).append (piece_hex2 _)) rfl
  | sbcN => exact meets_unprefixed ((piece_aluOp _).append (piece_hex2 _)) rfl
  | andN => exact meets_unprefixed ((piece_aluOp _).append (piece_hex2 _)) rfl
  | xorN => exact meets_unprefixed ((piece_aluOp _).append (piece_hex2 _)) rfl
  | orN => exact meets_unprefixed ((piece_aluOp _).append (piece_hex2 _)) rfl
  | cpN => exact meets_unprefixed ((piece_aluOp _).append (piece_hex2 _)) rfl
  | rst => exact meets_unprefixed ((piece_txt "RST " rfl).append (piece_hex2 _)) rfl
  | cbRlc => exact meets_cb (((piece_rotateOp _).append (piece_txt " " rfl)).append (piece_register8 _)) rfl
  | cbRrc => exact meets_cb (((piece_rotateOp _).append (piece_txt " " rfl)).append (piece_register8 _)) rfl
  | cbRl => exact meets_cb (((piece_rotateOp _).append (piece_txt " " rfl)).append (piece_register8 _)) rfl
  | cbRr => exact meets_cb (((piece_rotateOp _).append (piece_txt " " rfl)).append (piece_register8 _)) rfl
  | cbSla => exact meets_cb (((piece_rotateOp _).append (piece_txt " " rfl)).append (piece_register8 _)) rfl
  | cbSra => exact meets_cb (((piece_rotateOp _).append (piece_txt " " rfl)).append (piece_register8 _)) rfl
  | cbSll => exact meets_cb (((piece_rotateOp _).append (piece_txt " " rfl)).append (piece_register8 _)) rfl
  | cbSrl => exact meets_cb (((piece_rotateOp _).append (piece_txt " " rfl)).append (piece_register8 _)) rfl
  | cbBit => exact meets_cb (((((piece_bitOp _).append (piece_txt " " rfl)).append (piece_dec1 _)).append 
      (piece_txt "," rfl)).append (piece_register8 _)) rfl
  | cbRes => exact meets_cb (((((piece_bitOp _).append (piece_txt " " rfl)).append (piece_dec1 _)).append 
      (piece_txt "," rfl)).append (piece_register8 _)) rfl
  | cbSet => exact meets_cb (((((piece_bitOp _).append (piece_txt " " rfl)).append (piece_dec1 _)).append 
      (piece_txt "," rfl)).append (piece_register8 _)) rfl
  | inRC => exact meets_ed (((piece_txt "IN " rfl).append (piece_register8 _)).append (piece_txt ",(C)" rfl)) rfl
  | inC => exact meets_ed (piece_txt "IN (C)" rfl) rfl
  | outCR => exact meets_ed ((piece_txt "OUT (C)," rfl).append (piece_register8 _)) rfl
  | outC0 => exact meets_ed (piece_txt "OUT (C),0" rfl) rfl
  | sbcHlRp => exact meets_ed ((piece_txt "SBC HL," rfl).append (piece_registerPair16 _)) rfl
  | adcHlRp => exact meets_ed ((piece_txt "ADC HL," rfl).append (piece_registerPair16 _)) rfl
  | ldNnRp => exact meets_ed ((((piece_txt "LD (" rfl).append (piece_hex4 _)).append 
      (piece_txt ")," rfl)).append (piece_registerPair16 _)) rfl
  | ldRpNni => exact meets_ed (((((piece_txt "LD " rfl).append (piece_registerPair16 _)).append 
      (piece_txt ",(" rfl)).append (piece_hex4 _)).append (piece_txt ")" rfl)) rfl
  | neg => exact meets_ed (piece_txt "NEG" rfl) rfl
  | retn => exact meets_ed (piece_txt "RETN" rfl) rfl
  | reti => exact meets_ed (piece_txt "RETI" rfl) rfl
  | im => exact meets_ed ((piece_txt "IM " rfl).append (piece_interruptMode _)) rfl
  | ldIA => exact meets_ed (piece_txt "LD I,A" rfl) rfl
  | ldRA => exact meets_ed (piece_txt "LD R,A" rfl) rfl
  | ldAI => exact meets_ed (piece_txt "LD A,I" rfl) rfl
  | ldAR => exact meets_ed (piece_txt "LD A,R" rfl) rfl
  | rrd => exact meets_ed (piece_txt "RRD" rfl) rfl
  | rld => exact meets_ed (piece_txt "RLD" rfl) rfl
  | edNopX1 => exact meets_edNop
  | ldi => exact meets_ed (piece_blockOp _ _) rfl
  | cpi => exact meets_ed (piece_blockOp _ _) rfl
  | ini => exact meets_ed (piece_blockOp _ _) rfl
  | outi => exact meets_ed (piece_blockOp _ _) rfl
  | ldd => exact meets_ed (piece_blockOp _ _) rfl
  | cpd => exact meets_ed (piece_blockOp _ _) rfl
  | ind => exact meets_ed (piece_blockOp _ _) rfl
  | outd => exact meets_ed (piece_blockOp _ _) rfl
  | ldir => exact meets_ed (piece_blockOp _ _) rfl
  | cpir => exact meets_ed (piece_blockOp _ _) rfl
  | inir => exact meets_ed (piece_blockOp _ _) rfl
  | otir => exact meets_ed (piece_blockOp _ _) rfl
  | lddr => exact meets_ed (piece_blockOp _ _) rfl
  | cpdr => exact meets_ed (piece_blockOp _ _) rfl
  | indr => exact meets_ed (piece_blockOp _ _) rfl
  | otdr => exact meets_ed (piece_blockOp _ _) rfl
  | edNopX2 => exact meets_edNop
  | edNopX0 => exact meets_edNop
  | edNopX3 => exact meets_edNop
  | loneDdFd => exact meets_lone (piece_txt "NOP" rfl) rfl
  | loneEd => exact meets_lone (piece_txt "NOP" rfl) rfl
  | addIRp => exact meets_index ((((piece_txt "ADD " rfl).append (piece_indexName _)).append 
      (piece_txt "," rfl)).append (piece_pairOrIndex _ _)) rfl
  | ldINn => exact meets_index ((((piece_txt "LD " rfl).append (piece_indexName _)).append 
      (piece_txt "," rfl)).append (piece_hex4 _)) rfl
  | ldNnI => exact meets_index ((((piece_txt "LD (" rfl).append (piece_hex4 _)).append 
      (piece_txt ")," rfl)).append (piece_indexName _)) rfl
  | incI => exact meets_index ((piece_txt "INC " rfl).append (piece_indexName _)) rfl
  | ldINni => exact meets_index (((((piece_txt "LD " rfl).append (piece_indexName _)).append 
      (piece_txt ",(" rfl)).append (piece_hex4 _)).append (piece_txt ")" rfl)) rfl
  | decI => exact meets_index ((piece_txt "DEC " rfl).append (piece_indexName _)) rfl
  | incID => exact meets_index ((piece_txt "INC " rfl).append (piece_indexed _ _)) rfl
  | decID => exact meets_index ((piece_txt "DEC " rfl).append (piece_indexed _ _)) rfl
  | ldIDN => exact meets_index ((((piece_txt "LD " rfl).append (piece_indexed _ _)).append 
      (piece_txt "," rfl)).append (piece_hex2 _)) rfl
  | ldRID => exact meets_index ((((piece_txt "LD " rfl).append (piece_register hw)).append 
      (piece_txt "," rfl)).append (piece_indexed _ _)) rfl
  | ldIDR => exact meets_index ((((piece_txt "LD " rfl).append (piece_indexed _ _)).append 
      (piece_txt "," rfl)).append (piece_register hw)) rfl
  | addID => exact meets_index ((piece_aluOp _).append (piece_indexed _ _)) rfl
  | adcID => exact meets_index ((piece_aluOp _).append (piece_indexed _ _)) rfl
  | subID => exact meets_index ((piece_aluOp _).append (piece_indexed _ _)) rfl
  | sbcID => exact meets_index ((piece_aluOp _).append (piece_indexed _ _)) rfl
  | andID => exact meets_index ((piece_aluOp _).append (piece_indexed _ _)) rfl
  | xorID => exact meets_index ((piece_aluOp _).append (piece_indexed _ _)) rfl
  | orID => exact meets_index ((piece_aluOp _).append (piece_indexed _ _)) rfl
  | cpID => exact meets_index ((piece_aluOp _).append (piece_indexed _ _)) rfl
  | popI => exact meets_index ((piece_txt "POP " rfl).append (piece_indexName _)) rfl
  | exSpI => exact meets_index ((piece_txt "EX (SP)," rfl).append (piece_indexName _)) rfl
  | pushI => exact meets_index ((piece_txt "PUSH " rfl).append (piece_indexName _)) rfl
  | jpI => exact meets_index (((piece_txt "JP (" rfl).append (piece_indexName _)).append (piece_txt ")" rfl)) rfl
  | ldSpI => exact meets_index ((piece_txt "LD SP," rfl).append (piece_indexName _)) rfl
  | passNop => exact meets_index (piece_txt "NOP" rfl) rfl
  | passExAfAf => exact meets_index (piece_txt "EX AF,AF'" rfl) rfl
  | passDjnz => exact meets_index ((piece_txt "DJNZ " rfl).append (piece_hex2 _)) rfl
  | passJr => exact meets_index ((piece_txt "JR " rfl).append (piece_hex2 _)) rfl
  | passJrCc => exact meets_index ((((piece_txt "JR " rfl).append (piece_condition _)).append 
      (piece_txt "," rfl)).append (piece_hex2 _)) rfl
  | passLdRpNn => exact meets_index ((((piece_txt "LD " rfl).append (piece_registerPair16 _)).append 
      (piece_txt "," rfl)).append (piece_hex4 _)) rfl
  | passLdBcA => exact meets_index piece_indirectStore0 rfl
  | passLdDeA => exact meets_index piece_indirectStore1 rfl
  | passLdNnA => exact meets_index (piece_fillStore3 _) rfl
  | passLdABc => exact meets_index piece_indirectLoad0 rfl
  | passLdADe => exact meets_index piece_indirectLoad1 rfl
  | passLdANni => exact meets_index (piece_fillLoad3 _) rfl
  | passIncRp => exact meets_index ((piece_txt "INC " rfl).append (piece_registerPair16 _)) rfl
  | passDecRp => exact meets_index ((piece_txt "DEC " rfl).append (piece_registerPair16 _)) rfl
  | passIncR => exact meets_index ((piece_txt "INC " rfl).append (piece_register8 _)) rfl
  | passDecR => exact meets_index ((piece_txt "DEC " rfl).append (piece_register8 _)) rfl
  | passLdRN => exact meets_index ((((piece_txt "LD " rfl).append (piece_register8 _)).append 
      (piece_txt "," rfl)).append (piece_hex2 _)) rfl
  | passRlca => exact meets_index (piece_accumulatorFlagOp _) rfl
  | passRrca => exact meets_index (piece_accumulatorFlagOp _) rfl
  | passRla => exact meets_index (piece_accumulatorFlagOp _) rfl
  | passRra => exact meets_index (piece_accumulatorFlagOp _) rfl
  | passDaa => exact meets_index (piece_accumulatorFlagOp _) rfl
  | passCpl => exact meets_index (piece_accumulatorFlagOp _) rfl
  | passScf => exact meets_index (piece_accumulatorFlagOp _) rfl
  | passCcf => exact meets_index (piece_accumulatorFlagOp _) rfl
  | passLdRR => exact meets_index ((((piece_txt "LD " rfl).append (piece_register8 _)).append 
      (piece_txt "," rfl)).append (piece_register8 _)) rfl
  | passHalt => exact meets_index (piece_txt "HALT" rfl) rfl
  | passAddR => exact meets_index ((piece_aluOp _).append (piece_register8 _)) rfl
  | passAdcR => exact meets_index ((piece_aluOp _).append (piece_register8 _)) rfl
  | passSubR => exact meets_index ((piece_aluOp _).append (piece_register8 _)) rfl
  | passSbcR => exact meets_index ((piece_aluOp _).append (piece_register8 _)) rfl
  | passAndR => exact meets_index ((piece_aluOp _).append (piece_register8 _)) rfl
  | passXorR => exact meets_index ((piece_aluOp _).append (piece_register8 _)) rfl
  | passOrR => exact meets_index ((piece_aluOp _).append (piece_register8 _)) rfl
  | passCpR => exact meets_index ((piece_aluOp _).append (piece_register8 _)) rfl
  | passRetCc => exact meets_index ((piece_txt "RET " rfl).append (piece_condition _)) rfl
  | passPopRp2 => exact meets_index ((piece_txt "POP " rfl).append (piece_registerPair16Alt _)) rfl
  | passRet => exact meets_index (piece_txt "RET" rfl) rfl
  | passExx => exact meets_index (piece_txt "EXX" rfl) rfl
  | passJpCcNn => exact meets_index ((((piece_txt "JP " rfl).append (piece_condition _)).append 
      (piece_txt "," rfl)).append (piece_hex4 _)) rfl
  | passJpNn => exact meets_index ((piece_txt "JP " rfl).append (piece_hex4 _)) rfl
  | passOutNA => exact meets_index (((piece_txt "OUT (" rfl).append (piece_hex2 _)).append (piece_txt "),A" rfl)) rfl
  | passInAN => exact meets_index (((piece_txt "IN A,(" rfl).append (piece_hex2 _)).append (piece_txt ")" rfl)) rfl
  | passExDeHl => exact meets_index (piece_txt "EX DE,HL" rfl) rfl
  | passDi => exact meets_index (piece_txt "DI" rfl) rfl
  | passEi => exact meets_index (piece_txt "EI" rfl) rfl
  | passCallCcNn => exact meets_index ((((piece_txt "CALL " rfl).append (piece_condition _)).append 
      (piece_txt "," rfl)).append (piece_hex4 _)) rfl
  | passPushRp2 => exact meets_index ((piece_txt "PUSH " rfl).append (piece_registerPair16Alt _)) rfl
  | passCallNn => exact meets_index ((piece_txt "CALL " rfl).append (piece_hex4 _)) rfl
  | passAddN => exact meets_index ((piece_aluOp _).append (piece_hex2 _)) rfl
  | passAdcN => exact meets_index ((piece_aluOp _).append (piece_hex2 _)) rfl
  | passSubN => exact meets_index ((piece_aluOp _).append (piece_hex2 _)) rfl
  | passSbcN => exact meets_index ((piece_aluOp _).append (piece_hex2 _)) rfl
  | passAndN => exact meets_index ((piece_aluOp _).append (piece_hex2 _)) rfl
  | passXorN => exact meets_index ((piece_aluOp _).append (piece_hex2 _)) rfl
  | passOrN => exact meets_index ((piece_aluOp _).append (piece_hex2 _)) rfl
  | passCpN => exact meets_index ((piece_aluOp _).append (piece_hex2 _)) rfl
  | passRst => exact meets_index ((piece_txt "RST " rfl).append (piece_hex2 _)) rfl
  | xcbRlc => exact meets_index (((piece_rotateOp _).append (piece_txt " " rfl)).append 
      (piece_indexedOrRegister _ _ _)) rfl
  | xcbRrc => exact meets_index (((piece_rotateOp _).append (piece_txt " " rfl)).append 
      (piece_indexedOrRegister _ _ _)) rfl
  | xcbRl => exact meets_index (((piece_rotateOp _).append (piece_txt " " rfl)).append 
      (piece_indexedOrRegister _ _ _)) rfl
  | xcbRr => exact meets_index (((piece_rotateOp _).append (piece_txt " " rfl)).append 
      (piece_indexedOrRegister _ _ _)) rfl
  | xcbSla => exact meets_index (((piece_rotateOp _).append (piece_txt " " rfl)).append 
      (piece_indexedOrRegister _ _ _)) rfl
  | xcbSra => exact meets_index (((piece_rotateOp _).append (piece_txt " " rfl)).append 
      (piece_indexedOrRegister _ _ _)) rfl
  | xcbSll => exact meets_index (((piece_rotateOp _).append (piece_txt " " rfl)).append 
      (piece_indexedOrRegister _ _ _)) rfl
  | xcbSrl => exact meets_index (((piece_rotateOp _).append (piece_txt " " rfl)).append 
      (piece_indexedOrRegister _ _ _)) rfl
  | xcbBit => exact meets_index (((((piece_bitOp _).append (piece_txt " " rfl)).append (piece_dec1 _)).append 
      (piece_txt "," rfl)).append (piece_indexedOrRegister _ _ _)) rfl
  | xcbRes => exact meets_index (((((piece_bitOp _).append (piece_txt " " rfl)).append (piece_dec1 _)).append 
      (piece_txt "," rfl)).append (piece_indexedOrRegister _ _ _)) rfl
  | xcbSet => exact meets_index (((((piece_bitOp _).append (piece_txt " " rfl)).append (piece_dec1 _)).append 
      (piece_txt "," rfl)).append (piece_indexedOrRegister _ _ _)) rfl

/-- So does whatever instruction stands at the cursor. -/
theorem fetchInstr_meetsContract (s : State) : MeetsContract (exec (fetchInstr s)) :=
  exec_meetsContract _ (wellFormed_decode _ _ _ _)

end Sys2Proof.Machine
end

