-- ==== Sys2Proof/Laws/Direct.lean ====
section
/-! SUPPORT. What a T-state outside every schedule can do, that T-states add up over the calls that make them, and that
they keep the Z80's position one the contract has. -/

namespace Sys2Proof.Machine

/-- A second direct call finds the desync made. -/
theorem directDesync_of_lost {s : State} (h : s.rst = .released → s.sync = .lost) : directDesync s = s := by
  unfold directDesync
  split
  · rename_i hr
    have := h hr
    cases s
    simp_all [raiseDesync]
  · rfl

/-! ## One T-state of the contract -/

/-- No write reaches an overridden RAM (10_state.md R23; 41_channel_ops.md R115). -/
theorem tick_memory_overridden {m : TState.CycleState} (h : m.ramOvr = .asserted) : (TState.tick m).memory = m.memory := by
  simp only [TState.tick, TState.afterFetch, TState.afterOperand]
  (repeat' split) <;> simp_all

theorem tick_memory_wf {m : TState.CycleState} (h : m.memory.wf = true) : (TState.tick m).memory.wf = true := by
  simp only [TState.tick, TState.afterFetch, TState.afterOperand]
  (repeat' split) <;> first | exact h | exact Memory.wf_write h m.hl.isLt _

/-- The contract keeps its T-state counts, or leaves what it describes. -/
theorem tick_phase {m : TState.CycleState} (h : m.phase.legal) :
    (TState.tick m).phase.legal ∨ (TState.tick m).phase = .other := by
  obtain ⟨_, _, _, phase, _⟩ := m
  cases phase <;> simp only [Phase.legal] at h <;>
    simp only [TState.tick, TState.afterFetch, TState.afterOperand, TState.afterOpcode] <;>
    (repeat' split) <;> simp only [Phase.legal] <;> simp <;> omega

/-- Only the start of a write cycle, or a T-state of one, leads to a T-state of one. -/
theorem tick_write {m : TState.CycleState} {v : Byte} {t : Nat} (h : (TState.tick m).phase = .writeHl v (t + 1)) :
    ∃ n k, m.phase = .writeHl n k := by
  obtain ⟨_, _, _, phase, _⟩ := m
  cases phase with
  | writeHl n k => exact ⟨n, k, rfl⟩
  | _ =>
    simp only [TState.tick, TState.afterFetch, TState.afterOperand, TState.afterOpcode] at h
    (repeat' split at h) <;> simp at h

/-! ## What T-states can do -/

/-- All that the Z80 can do to a state while it is clocked: its own registers, its position, the count of free values and
memory change, and memory neither in reset nor behind the override. -/
structure ClocksZ80 (s t : State) : Prop where
  clk : t.clk = s.clk
  rst : t.rst = s.rst
  ramOvr : t.ramOvr = s.ramOvr
  dbusDir : t.dbusDir = s.dbusDir
  dbusOut : t.dbusOut = s.dbusOut
  pinTrace : t.pinTrace = s.pinTrace
  pulseTotal : t.pulseTotal = s.pulseTotal
  sync : t.sync = s.sync
  hlLoaded : t.hlLoaded = s.hlLoaded
  pc : t.pc = s.pc
  readTrace : t.readTrace = s.readTrace
  calls : t.calls = s.calls
  returned : t.returned = s.returned
  memory_inReset : s.rst = .asserted → t.memory = s.memory
  memory_overridden : s.ramOvr = .asserted → t.memory = s.memory
  memory_wf : s.memory.wf = true → t.memory.wf = true

theorem ClocksZ80.refl (s : State) : ClocksZ80 s s := by constructor <;> simp

theorem ClocksZ80.trans {s t u : State} (h : ClocksZ80 s t) (g : ClocksZ80 t u) : ClocksZ80 s u := by
  constructor
  case memory_inReset => exact fun r => (g.memory_inReset (h.rst.trans r)).trans (h.memory_inReset r)
  case memory_overridden => exact fun r => (g.memory_overridden (h.ramOvr.trans r)).trans (h.memory_overridden r)
  case memory_wf => exact fun r => g.memory_wf (h.memory_wf r)
  all_goals simp only [h.clk, h.rst, h.ramOvr, h.dbusDir, h.dbusOut, h.pinTrace, h.pulseTotal, h.sync, h.hlLoaded, h.pc,
    h.readTrace, h.calls, h.returned, g.clk, g.rst, g.ramOvr, g.dbusDir, g.dbusOut, g.pinTrace, g.pulseTotal, g.sync,
    g.hlLoaded, g.pc, g.readTrace, g.calls, g.returned]

theorem directTState_clocks {s t : State} (h : directTState s = .next t) : ClocksZ80 s t := by
  unfold directTState at h
  split at h
  · cases h
    constructor <;> simp [tickReset]
  · rename_i hr
    split at h
    · rename_i phase _
      split at h
      · cases h
      · cases h
        constructor
        case memory_inReset => exact fun r => absurd r hr
        case memory_overridden => exact tick_memory_overridden (m := cycleState phase s)
        case memory_wf => exact tick_memory_wf (m := cycleState phase s)
        all_goals rfl
    · cases h
      constructor <;> simp only [tickStarting] <;> split <;> simp
    all_goals
      cases h
      constructor <;> simp only [tickUnknown] <;> split <;> simp_all [Memory.wf_writeAll]

theorem directTStates_clocks {n : Nat} {s t : State} (h : directTStates n s = .next t) : ClocksZ80 s t := by
  induction n generalizing s with
  | zero =>
    cases h
    exact .refl _
  | succ n ih =>
    obtain ⟨u, hu, ht⟩ := andThen_eq_next h
    exact (directTState_clocks hu).trans (ih ht)

theorem clockZ80_clocks {busOp : BusOp} {s t : State} (h : clockZ80 busOp s = .next t) : ClocksZ80 s t := by
  unfold clockZ80 at h
  split at h
  · exact directTStates_clocks h
  · cases h
    constructor <;> simp
  · cases h
    constructor <;> simp
  · split at h <;> cases h
    exact .refl _
  all_goals
    cases h
    exact .refl _

/-! ## T-states add up -/

/-- Pulses add up, whichever calls make them (40_busdriver_ops.md R100). -/
theorem directTStates_add (m n : Nat) (s : State) :
    directTStates (m + n) s = andThen (directTStates m s) (directTStates n) := by
  induction m generalizing s with
  | zero => rw [Nat.zero_add, directTStates, andThen_next]
  | succ m ih =>
    rw [Nat.add_right_comm, directTStates, directTStates]
    cases directTState s with
    | next u => exact ih u
    | fault f => rfl
    | refused r => rfl

/-- The Z80 sees neither the traces nor the queue. -/
theorem directTStates_ghost (n : Nat) (s : State) (trace : List PinEvent) (total : Nat) (calls : List HostCall) :
    directTStates n { s with pinTrace := trace, pulseTotal := total, calls := calls } =
      andThen (directTStates n s) fun t => .next { t with pinTrace := trace, pulseTotal := total, calls := calls } := by
  induction n generalizing s with
  | zero => rfl
  | succ n ih =>
    have h : directTState { s with pinTrace := trace, pulseTotal := total, calls := calls } =
        andThen (directTState s) fun t => .next { t with pinTrace := trace, pulseTotal := total, calls := calls } := by
      unfold directTState
      by_cases hr : s.rst = .asserted
      · rw [if_pos hr, if_pos hr]
        rfl
      · rw [if_neg hr, if_neg hr]
        cases s.z80Place with
        | cycle phase =>
          by_cases hg : TState.fights (cycleState phase s) = true
          · refine (if_pos hg).trans ?_
            simp only [hg, if_true, andThen_fault]
          · refine (if_neg hg).trans ?_
            simp only [hg]
            rfl
        | starting k =>
          simp only [tickStarting]
          split <;> rfl
        | resetting k =>
          simp only [tickUnknown]
          split <;> rfl
        | unknown =>
          simp only [tickUnknown]
          split <;> rfl
    rw [directTStates, directTStates, h]
    cases directTState s with
    | next u => exact ih u
    | fault f => rfl
    | refused r => rfl

/-- The T-states of a fetch that take no byte only move the place in it (41_channel_ops.md R115). -/
theorem directTStates_fetch {s : State} {k : Nat} (n : Nat) (hr : s.rst = .released)
    (hp : s.z80Place = .cycle (.fetch k)) (hf : busFight s = false) (hk : k + n ≤ 2) :
    directTStates n s = .next { s with z80Place := .cycle (.fetch (k + n)) } := by
  induction n generalizing s k with
  | zero => cases s; simp_all [directTStates]
  | succ n ih =>
    have h : directTState s = .next { s with z80Place := .cycle (.fetch (k + 1)) } := by
      have hk2 : k ≠ 2 := by omega
      have hg : TState.fights (cycleState (.fetch k) s) = false := by
        simpa [TState.fights, cycleState, TState.inWriteCycle, TState.ofState, busFight] using hf
      simp only [directTState, hr, hp, hg]
      simp [tickCycle, TState.tick, cycleState, TState.ofState, hk2, placeOf, hr]
    rw [directTStates, h, andThen_next,
      ih (s := { s with z80Place := .cycle (.fetch (k + 1)) }) hr rfl hf (by omega), Nat.add_assoc, Nat.add_comm 1]

/-! ## The position stays one the contract has -/

theorem placeOf_ok {s : State} {phase : Phase} (hr : s.rst = .released) (hs : s.sync ≠ .unknown)
    (h : phase.legal ∨ phase = .other) : (placeOf phase).ok s := by
  cases phase <;> simp_all [placeOf, Z80Place.ok]

/-- A T-state keeps the position one the contract has, in a desync or in reset. -/
theorem directTState_place {s t : State} (hs : s.rst = .released → s.sync ≠ .unknown) (hp : s.z80Place.ok s)
    (h : directTState s = .next t) : t.z80Place.ok t := by
  unfold directTState at h
  split at h
  · rename_i hr
    cases h
    simp only [tickReset]
    split <;> simp [Z80Place.ok, hr]
  · rename_i hr
    split at h
    · rename_i phase hc
      rw [hc] at hp
      split at h
      · cases h
      · cases h
        exact placeOf_ok hp.1 hp.2.1 (tick_phase hp.2.2)
    · rename_i n hc
      rw [hc] at hp
      cases h
      simp only [tickStarting]
      split
      · exact ⟨hp.1, hs hp.1, Nat.zero_le 2⟩
      · refine ⟨hp.1, ?_⟩
        have := hp.2
        omega
    all_goals
      cases h
      simp only [tickUnknown]
      split <;> simp [Z80Place.ok]

/-- A T-state that leaves the Z80 driving its own byte was none in which the controller drove (93_implementation_defined.md
U3). -/
theorem directTState_undriven {s t : State} (h : directTState s = .next t) {v : Byte} {k : Nat}
    (hw : t.z80Place = .cycle (.writeHl v (k + 1))) : t.dbusDir = .inPullup := by
  rw [(directTState_clocks h).dbusDir]
  unfold directTState at h
  split at h
  · cases h
    simp only [tickReset] at hw
    split at hw <;> simp at hw
  · split at h
    · split at h
      · cases h
      · rename_i phase hc hf
        cases h
        have hq : (TState.tick (cycleState phase s)).phase = .writeHl v (k + 1) := by
          simp only [tickCycle] at hw
          unfold placeOf at hw
          split at hw <;> simp_all
        obtain ⟨n, j, hj⟩ := tick_write hq
        have : phase = .writeHl n j := hj
        subst this
        cases hd : s.dbusDir with
        | inPullup => rfl
        | out => simp [TState.fights, cycleState, TState.ofState, TState.inWriteCycle, hd] at hf
    · cases h
      simp only [tickStarting] at hw
      split at hw <;> simp at hw
    all_goals
      cases h
      simp only [tickUnknown] at hw
      split at hw <;> simp at hw

/-- Pulses keep both, out of reset from a desync on. -/
theorem directTStates_place {n : Nat} {s t : State} (hs : s.rst = .released → s.sync ≠ .unknown) (hp : s.z80Place.ok s)
    (hw : ∀ v k, s.z80Place = .cycle (.writeHl v (k + 1)) → s.dbusDir = .inPullup) (h : directTStates n s = .next t) :
    t.z80Place.ok t ∧ ∀ v k, t.z80Place = .cycle (.writeHl v (k + 1)) → t.dbusDir = .inPullup := by
  induction n generalizing s with
  | zero =>
    cases h
    exact ⟨hp, hw⟩
  | succ n ih =>
    obtain ⟨u, hu, ht⟩ := andThen_eq_next h
    have e := directTState_clocks hu
    exact ih (by rw [e.rst, e.sync]; exact hs) (directTState_place hs hp hu)
      (fun v k => directTState_undriven hu) ht

end Sys2Proof.Machine
end

