-- ==== Sys2Proof/Laws/Exec.lean ====
section
/-! SUPPORT. What every instruction does, said once: it is one decode, with a length in 1..4, at least one read, at most
one read more than its length, and a text that is not empty. -/

namespace Sys2Proof.Machine

/-- The shape of every meaning. -/
def IsDecode (meaning : State → Result) : Prop :=
  ∃ (pfx : PrefixClass) (opcode : Byte) (text : Text) (len reads : Nat),
    (∀ s, meaning s = present pfx opcode text len (reads + 1) s) ∧ 1 ≤ len ∧ len ≤ 4 ∧ len ≤ reads + 1 ∧
      reads ≤ len ∧ reads ≤ 3 ∧ text.isEmpty = false

theorem exec_isDecode (i : Instr) : IsDecode (exec i) := by
  cases i <;> exact ⟨_, _, _, _, _, fun _ => rfl, by decide, by decide, by decide, by decide, by decide, rfl⟩

end Sys2Proof.Machine
end

