-- ==== Sys2Proof/Laws/PerInstr.lean ====
section
/-! SUPPORT. Statements made of every instruction as syntax, one lemma per constructor. -/

namespace Sys2Proof.Laws

/-- The encoding of an instruction has the length that the length function reads from its first two bytes
(30_encoding.md R76, R79). -/
def EncodeLength.Statement (i : Instr) : Prop :=
  wellFormed i = true →
    (encode i).length = lengthOf (byteAt (encode i ++ lookahead i) 0) (byteAt (encode i ++ lookahead i) 1)

theorem EncodeLength.nop : EncodeLength.Statement (.nop) := by
  intro _
  rfl

theorem EncodeLength.exAfAf : EncodeLength.Statement (.exAfAf) := by
  intro _
  rfl

theorem EncodeLength.djnz (d : Byte) : EncodeLength.Statement (.djnz d) := by
  intro _
  rfl

theorem EncodeLength.jr (d : Byte) : EncodeLength.Statement (.jr d) := by
  intro _
  rfl

theorem EncodeLength.jrCc (y : Fin 8) (d : Byte) : EncodeLength.Statement (.jrCc y d) := by
  intro h
  fin_cases y <;> first | rfl | exact absurd h Bool.false_ne_true

theorem EncodeLength.ldRpNn (p : Fin 4) (nn : Word) : EncodeLength.Statement (.ldRpNn p nn) := by
  intro _
  fin_cases p <;> rfl

theorem EncodeLength.addHlRp (p : Fin 4) : EncodeLength.Statement (.addHlRp p) := by
  intro _
  fin_cases p <;> rfl

theorem EncodeLength.ldBcA : EncodeLength.Statement (.ldBcA) := by
  intro _
  rfl

theorem EncodeLength.ldDeA : EncodeLength.Statement (.ldDeA) := by
  intro _
  rfl

theorem EncodeLength.ldNnHl (nn : Word) : EncodeLength.Statement (.ldNnHl nn) := by
  intro _
  rfl

theorem EncodeLength.ldNnA (nn : Word) : EncodeLength.Statement (.ldNnA nn) := by
  intro _
  rfl

theorem EncodeLength.ldABc : EncodeLength.Statement (.ldABc) := by
  intro _
  rfl

theorem EncodeLength.ldADe : EncodeLength.Statement (.ldADe) := by
  intro _
  rfl

theorem EncodeLength.ldHlNni (nn : Word) : EncodeLength.Statement (.ldHlNni nn) := by
  intro _
  rfl

theorem EncodeLength.ldANni (nn : Word) : EncodeLength.Statement (.ldANni nn) := by
  intro _
  rfl

theorem EncodeLength.incRp (p : Fin 4) : EncodeLength.Statement (.incRp p) := by
  intro _
  fin_cases p <;> rfl

theorem EncodeLength.decRp (p : Fin 4) : EncodeLength.Statement (.decRp p) := by
  intro _
  fin_cases p <;> rfl

theorem EncodeLength.incR (y : Fin 8) : EncodeLength.Statement (.incR y) := by
  intro _
  fin_cases y <;> rfl

theorem EncodeLength.incM : EncodeLength.Statement (.incM) := by
  intro _
  rfl

theorem EncodeLength.decR (y : Fin 8) : EncodeLength.Statement (.decR y) := by
  intro _
  fin_cases y <;> rfl

theorem EncodeLength.decM : EncodeLength.Statement (.decM) := by
  intro _
  rfl

theorem EncodeLength.ldRN (y : Fin 8) (n : Byte) : EncodeLength.Statement (.ldRN y n) := by
  intro _
  fin_cases y <;> rfl

theorem EncodeLength.ldMN (n : Byte) : EncodeLength.Statement (.ldMN n) := by
  intro _
  rfl

theorem EncodeLength.rlca : EncodeLength.Statement (.rlca) := by
  intro _
  rfl

theorem EncodeLength.rrca : EncodeLength.Statement (.rrca) := by
  intro _
  rfl

theorem EncodeLength.rla : EncodeLength.Statement (.rla) := by
  intro _
  rfl

theorem EncodeLength.rra : EncodeLength.Statement (.rra) := by
  intro _
  rfl

theorem EncodeLength.daa : EncodeLength.Statement (.daa) := by
  intro _
  rfl

theorem EncodeLength.cpl : EncodeLength.Statement (.cpl) := by
  intro _
  rfl

theorem EncodeLength.scf : EncodeLength.Statement (.scf) := by
  intro _
  rfl

theorem EncodeLength.ccf : EncodeLength.Statement (.ccf) := by
  intro _
  rfl

theorem EncodeLength.ldRR (y : Fin 8) (z : Fin 8) : EncodeLength.Statement (.ldRR y z) := by
  intro _
  fin_cases y <;> fin_cases z <;> rfl

theorem EncodeLength.ldRM (y : Fin 8) : EncodeLength.Statement (.ldRM y) := by
  intro _
  fin_cases y <;> rfl

theorem EncodeLength.ldMR (z : Fin 8) : EncodeLength.Statement (.ldMR z) := by
  intro _
  fin_cases z <;> rfl

theorem EncodeLength.halt : EncodeLength.Statement (.halt) := by
  intro _
  rfl

theorem EncodeLength.addR (z : Fin 8) : EncodeLength.Statement (.addR z) := by
  intro _
  fin_cases z <;> rfl

theorem EncodeLength.addM : EncodeLength.Statement (.addM) := by
  intro _
  rfl

theorem EncodeLength.adcR (z : Fin 8) : EncodeLength.Statement (.adcR z) := by
  intro _
  fin_cases z <;> rfl

theorem EncodeLength.adcM : EncodeLength.Statement (.adcM) := by
  intro _
  rfl

theorem EncodeLength.subR (z : Fin 8) : EncodeLength.Statement (.subR z) := by
  intro _
  fin_cases z <;> rfl

theorem EncodeLength.subM : EncodeLength.Statement (.subM) := by
  intro _
  rfl

theorem EncodeLength.sbcR (z : Fin 8) : EncodeLength.Statement (.sbcR z) := by
  intro _
  fin_cases z <;> rfl

theorem EncodeLength.sbcM : EncodeLength.Statement (.sbcM) := by
  intro _
  rfl

theorem EncodeLength.andR (z : Fin 8) : EncodeLength.Statement (.andR z) := by
  intro _
  fin_cases z <;> rfl

theorem EncodeLength.andM : EncodeLength.Statement (.andM) := by
  intro _
  rfl

theorem EncodeLength.xorR (z : Fin 8) : EncodeLength.Statement (.xorR z) := by
  intro _
  fin_cases z <;> rfl

theorem EncodeLength.xorM : EncodeLength.Statement (.xorM) := by
  intro _
  rfl

theorem EncodeLength.orR (z : Fin 8) : EncodeLength.Statement (.orR z) := by
  intro _
  fin_cases z <;> rfl

theorem EncodeLength.orM : EncodeLength.Statement (.orM) := by
  intro _
  rfl

theorem EncodeLength.cpR (z : Fin 8) : EncodeLength.Statement (.cpR z) := by
  intro _
  fin_cases z <;> rfl

theorem EncodeLength.cpM : EncodeLength.Statement (.cpM) := by
  intro _
  rfl

theorem EncodeLength.retCc (y : Fin 8) : EncodeLength.Statement (.retCc y) := by
  intro _
  fin_cases y <;> rfl

theorem EncodeLength.popRp2 (p : Fin 4) : EncodeLength.Statement (.popRp2 p) := by
  intro _
  fin_cases p <;> rfl

theorem EncodeLength.ret : EncodeLength.Statement (.ret) := by
  intro _
  rfl

theorem EncodeLength.exx : EncodeLength.Statement (.exx) := by
  intro _
  rfl

theorem EncodeLength.jpHl : EncodeLength.Statement (.jpHl) := by
  intro _
  rfl

theorem EncodeLength.ldSpHl : EncodeLength.Statement (.ldSpHl) := by
  intro _
  rfl

theorem EncodeLength.jpCcNn (y : Fin 8) (nn : Word) : EncodeLength.Statement (.jpCcNn y nn) := by
  intro _
  fin_cases y <;> rfl

theorem EncodeLength.jpNn (nn : Word) : EncodeLength.Statement (.jpNn nn) := by
  intro _
  rfl

theorem EncodeLength.outNA (n : Byte) : EncodeLength.Statement (.outNA n) := by
  intro _
  rfl

theorem EncodeLength.inAN (n : Byte) : EncodeLength.Statement (.inAN n) := by
  intro _
  rfl

theorem EncodeLength.exSpHl : EncodeLength.Statement (.exSpHl) := by
  intro _
  rfl

theorem EncodeLength.exDeHl : EncodeLength.Statement (.exDeHl) := by
  intro _
  rfl

theorem EncodeLength.di : EncodeLength.Statement (.di) := by
  intro _
  rfl

theorem EncodeLength.ei : EncodeLength.Statement (.ei) := by
  intro _
  rfl

theorem EncodeLength.callCcNn (y : Fin 8) (nn : Word) : EncodeLength.Statement (.callCcNn y nn) := by
  intro _
  fin_cases y <;> rfl

theorem EncodeLength.pushRp2 (p : Fin 4) : EncodeLength.Statement (.pushRp2 p) := by
  intro _
  fin_cases p <;> rfl

theorem EncodeLength.callNn (nn : Word) : EncodeLength.Statement (.callNn nn) := by
  intro _
  rfl

theorem EncodeLength.addN (n : Byte) : EncodeLength.Statement (.addN n) := by
  intro _
  rfl

theorem EncodeLength.adcN (n : Byte) : EncodeLength.Statement (.adcN n) := by
  intro _
  rfl

theorem EncodeLength.subN (n : Byte) : EncodeLength.Statement (.subN n) := by
  intro _
  rfl

theorem EncodeLength.sbcN (n : Byte) : EncodeLength.Statement (.sbcN n) := by
  intro _
  rfl

theorem EncodeLength.andN (n : Byte) : EncodeLength.Statement (.andN n) := by
  intro _
  rfl

theorem EncodeLength.xorN (n : Byte) : EncodeLength.Statement (.xorN n) := by
  intro _
  rfl

theorem EncodeLength.orN (n : Byte) : EncodeLength.Statement (.orN n) := by
  intro _
  rfl

theorem EncodeLength.cpN (n : Byte) : EncodeLength.Statement (.cpN n) := by
  intro _
  rfl

theorem EncodeLength.rst (y : Fin 8) : EncodeLength.Statement (.rst y) := by
  intro _
  fin_cases y <;> rfl

theorem EncodeLength.cbRlc (z : Fin 8) : EncodeLength.Statement (.cbRlc z) := by
  intro _
  fin_cases z <;> rfl

theorem EncodeLength.cbRrc (z : Fin 8) : EncodeLength.Statement (.cbRrc z) := by
  intro _
  fin_cases z <;> rfl

theorem EncodeLength.cbRl (z : Fin 8) : EncodeLength.Statement (.cbRl z) := by
  intro _
  fin_cases z <;> rfl

theorem EncodeLength.cbRr (z : Fin 8) : EncodeLength.Statement (.cbRr z) := by
  intro _
  fin_cases z <;> rfl

theorem EncodeLength.cbSla (z : Fin 8) : EncodeLength.Statement (.cbSla z) := by
  intro _
  fin_cases z <;> rfl

theorem EncodeLength.cbSra (z : Fin 8) : EncodeLength.Statement (.cbSra z) := by
  intro _
  fin_cases z <;> rfl

theorem EncodeLength.cbSll (z : Fin 8) : EncodeLength.Statement (.cbSll z) := by
  intro _
  fin_cases z <;> rfl

theorem EncodeLength.cbSrl (z : Fin 8) : EncodeLength.Statement (.cbSrl z) := by
  intro _
  fin_cases z <;> rfl

theorem EncodeLength.cbBit (y : Fin 8) (z : Fin 8) : EncodeLength.Statement (.cbBit y z) := by
  intro _
  fin_cases y <;> fin_cases z <;> rfl

theorem EncodeLength.cbRes (y : Fin 8) (z : Fin 8) : EncodeLength.Statement (.cbRes y z) := by
  intro _
  fin_cases y <;> fin_cases z <;> rfl

theorem EncodeLength.cbSet (y : Fin 8) (z : Fin 8) : EncodeLength.Statement (.cbSet y z) := by
  intro _
  fin_cases y <;> fin_cases z <;> rfl

theorem EncodeLength.inRC (y : Fin 8) : EncodeLength.Statement (.inRC y) := by
  intro _
  fin_cases y <;> rfl

theorem EncodeLength.inC : EncodeLength.Statement (.inC) := by
  intro _
  rfl

theorem EncodeLength.outCR (y : Fin 8) : EncodeLength.Statement (.outCR y) := by
  intro _
  fin_cases y <;> rfl

theorem EncodeLength.outC0 : EncodeLength.Statement (.outC0) := by
  intro _
  rfl

theorem EncodeLength.sbcHlRp (p : Fin 4) : EncodeLength.Statement (.sbcHlRp p) := by
  intro _
  fin_cases p <;> rfl

theorem EncodeLength.adcHlRp (p : Fin 4) : EncodeLength.Statement (.adcHlRp p) := by
  intro _
  fin_cases p <;> rfl

theorem EncodeLength.ldNnRp (p : Fin 4) (nn : Word) : EncodeLength.Statement (.ldNnRp p nn) := by
  intro _
  fin_cases p <;> with_unfolding_all rfl

theorem EncodeLength.ldRpNni (p : Fin 4) (nn : Word) : EncodeLength.Statement (.ldRpNni p nn) := by
  intro _
  fin_cases p <;> with_unfolding_all rfl

theorem EncodeLength.neg (y : Fin 8) : EncodeLength.Statement (.neg y) := by
  intro _
  fin_cases y <;> rfl

theorem EncodeLength.retn (y : Fin 8) : EncodeLength.Statement (.retn y) := by
  intro _
  fin_cases y <;> rfl

theorem EncodeLength.reti : EncodeLength.Statement (.reti) := by
  intro _
  rfl

theorem EncodeLength.im (y : Fin 8) : EncodeLength.Statement (.im y) := by
  intro _
  fin_cases y <;> rfl

theorem EncodeLength.ldIA : EncodeLength.Statement (.ldIA) := by
  intro _
  rfl

theorem EncodeLength.ldRA : EncodeLength.Statement (.ldRA) := by
  intro _
  rfl

theorem EncodeLength.ldAI : EncodeLength.Statement (.ldAI) := by
  intro _
  rfl

theorem EncodeLength.ldAR : EncodeLength.Statement (.ldAR) := by
  intro _
  rfl

theorem EncodeLength.rrd : EncodeLength.Statement (.rrd) := by
  intro _
  rfl

theorem EncodeLength.rld : EncodeLength.Statement (.rld) := by
  intro _
  rfl

theorem EncodeLength.edNopX1 (y : Fin 8) : EncodeLength.Statement (.edNopX1 y) := by
  intro _
  fin_cases y <;> rfl

theorem EncodeLength.ldi : EncodeLength.Statement (.ldi) := by
  intro _
  rfl

theorem EncodeLength.cpi : EncodeLength.Statement (.cpi) := by
  intro _
  rfl

theorem EncodeLength.ini : EncodeLength.Statement (.ini) := by
  intro _
  rfl

theorem EncodeLength.outi : EncodeLength.Statement (.outi) := by
  intro _
  rfl

theorem EncodeLength.ldd : EncodeLength.Statement (.ldd) := by
  intro _
  rfl

theorem EncodeLength.cpd : EncodeLength.Statement (.cpd) := by
  intro _
  rfl

theorem EncodeLength.ind : EncodeLength.Statement (.ind) := by
  intro _
  rfl

theorem EncodeLength.outd : EncodeLength.Statement (.outd) := by
  intro _
  rfl

theorem EncodeLength.ldir : EncodeLength.Statement (.ldir) := by
  intro _
  rfl

theorem EncodeLength.cpir : EncodeLength.Statement (.cpir) := by
  intro _
  rfl

theorem EncodeLength.inir : EncodeLength.Statement (.inir) := by
  intro _
  rfl

theorem EncodeLength.otir : EncodeLength.Statement (.otir) := by
  intro _
  rfl

theorem EncodeLength.lddr : EncodeLength.Statement (.lddr) := by
  intro _
  rfl

theorem EncodeLength.cpdr : EncodeLength.Statement (.cpdr) := by
  intro _
  rfl

theorem EncodeLength.indr : EncodeLength.Statement (.indr) := by
  intro _
  rfl

theorem EncodeLength.otdr : EncodeLength.Statement (.otdr) := by
  intro _
  rfl

theorem EncodeLength.edNopX2 (y : Fin 8) (z : Fin 8) : EncodeLength.Statement (.edNopX2 y z) := by
  intro _
  fin_cases y <;> fin_cases z <;> rfl

theorem EncodeLength.edNopX0 (y : Fin 8) (z : Fin 8) : EncodeLength.Statement (.edNopX0 y z) := by
  intro _
  fin_cases y <;> fin_cases z <;> rfl

theorem EncodeLength.edNopX3 (y : Fin 8) (z : Fin 8) : EncodeLength.Statement (.edNopX3 y z) := by
  intro _
  fin_cases y <;> fin_cases z <;> rfl

theorem EncodeLength.loneDdFd (ir : IndexReg) (jr : IndexReg) : EncodeLength.Statement (.loneDdFd ir jr) := by
  intro _
  cases ir <;> cases jr <;> rfl

theorem EncodeLength.loneEd (ir : IndexReg) : EncodeLength.Statement (.loneEd ir) := by
  intro _
  cases ir <;> rfl

theorem EncodeLength.addIRp (ir : IndexReg) (p : Fin 4) : EncodeLength.Statement (.addIRp ir p) := by
  intro _
  cases ir <;> fin_cases p <;> rfl

theorem EncodeLength.ldINn (ir : IndexReg) (nn : Word) : EncodeLength.Statement (.ldINn ir nn) := by
  intro _
  cases ir <;> rfl

theorem EncodeLength.ldNnI (ir : IndexReg) (nn : Word) : EncodeLength.Statement (.ldNnI ir nn) := by
  intro _
  cases ir <;> rfl

theorem EncodeLength.incI (ir : IndexReg) : EncodeLength.Statement (.incI ir) := by
  intro _
  cases ir <;> rfl

theorem EncodeLength.ldINni (ir : IndexReg) (nn : Word) : EncodeLength.Statement (.ldINni ir nn) := by
  intro _
  cases ir <;> rfl

theorem EncodeLength.decI (ir : IndexReg) : EncodeLength.Statement (.decI ir) := by
  intro _
  cases ir <;> rfl

theorem EncodeLength.incID (ir : IndexReg) (d : Byte) : EncodeLength.Statement (.incID ir d) := by
  intro _
  cases ir <;> rfl

theorem EncodeLength.decID (ir : IndexReg) (d : Byte) : EncodeLength.Statement (.decID ir d) := by
  intro _
  cases ir <;> rfl

theorem EncodeLength.ldIDN (ir : IndexReg) (d : Byte) (n : Byte) : EncodeLength.Statement (.ldIDN ir d n) := by
  intro _
  cases ir <;> rfl

theorem EncodeLength.ldRID (ir : IndexReg) (y : Fin 8) (d : Byte) : EncodeLength.Statement (.ldRID ir y d) := by
  intro h
  cases ir <;> fin_cases y <;> first | rfl | exact absurd h Bool.false_ne_true

theorem EncodeLength.ldIDR (ir : IndexReg) (d : Byte) (z : Fin 8) : EncodeLength.Statement (.ldIDR ir d z) := by
  intro h
  cases ir <;> fin_cases z <;> first | rfl | exact absurd h Bool.false_ne_true

theorem EncodeLength.addID (ir : IndexReg) (d : Byte) : EncodeLength.Statement (.addID ir d) := by
  intro _
  cases ir <;> rfl

theorem EncodeLength.adcID (ir : IndexReg) (d : Byte) : EncodeLength.Statement (.adcID ir d) := by
  intro _
  cases ir <;> rfl

theorem EncodeLength.subID (ir : IndexReg) (d : Byte) : EncodeLength.Statement (.subID ir d) := by
  intro _
  cases ir <;> rfl

theorem EncodeLength.sbcID (ir : IndexReg) (d : Byte) : EncodeLength.Statement (.sbcID ir d) := by
  intro _
  cases ir <;> rfl

theorem EncodeLength.andID (ir : IndexReg) (d : Byte) : EncodeLength.Statement (.andID ir d) := by
  intro _
  cases ir <;> rfl

theorem EncodeLength.xorID (ir : IndexReg) (d : Byte) : EncodeLength.Statement (.xorID ir d) := by
  intro _
  cases ir <;> rfl

theorem EncodeLength.orID (ir : IndexReg) (d : Byte) : EncodeLength.Statement (.orID ir d) := by
  intro _
  cases ir <;> rfl

theorem EncodeLength.cpID (ir : IndexReg) (d : Byte) : EncodeLength.Statement (.cpID ir d) := by
  intro _
  cases ir <;> rfl

theorem EncodeLength.popI (ir : IndexReg) : EncodeLength.Statement (.popI ir) := by
  intro _
  cases ir <;> rfl

theorem EncodeLength.exSpI (ir : IndexReg) : EncodeLength.Statement (.exSpI ir) := by
  intro _
  cases ir <;> rfl

theorem EncodeLength.pushI (ir : IndexReg) : EncodeLength.Statement (.pushI ir) := by
  intro _
  cases ir <;> rfl

theorem EncodeLength.jpI (ir : IndexReg) : EncodeLength.Statement (.jpI ir) := by
  intro _
  cases ir <;> rfl

theorem EncodeLength.ldSpI (ir : IndexReg) : EncodeLength.Statement (.ldSpI ir) := by
  intro _
  cases ir <;> rfl

theorem EncodeLength.passNop (ir : IndexReg) : EncodeLength.Statement (.passNop ir) := by
  intro _
  cases ir <;> rfl

theorem EncodeLength.passExAfAf (ir : IndexReg) : EncodeLength.Statement (.passExAfAf ir) := by
  intro _
  cases ir <;> rfl

theorem EncodeLength.passDjnz (ir : IndexReg) (d : Byte) : EncodeLength.Statement (.passDjnz ir d) := by
  intro _
  cases ir <;> rfl

theorem EncodeLength.passJr (ir : IndexReg) (d : Byte) : EncodeLength.Statement (.passJr ir d) := by
  intro _
  cases ir <;> rfl

theorem EncodeLength.passJrCc (ir : IndexReg) (y : Fin 8) (d : Byte) : EncodeLength.Statement (.passJrCc ir y d) := by
  intro h
  cases ir <;> fin_cases y <;> first | rfl | exact absurd h Bool.false_ne_true

theorem EncodeLength.passLdRpNn (ir : IndexReg) (p : Fin 4) (nn : Word) :
    EncodeLength.Statement (.passLdRpNn ir p nn) := by
  intro _
  cases ir <;> fin_cases p <;> rfl

theorem EncodeLength.passLdBcA (ir : IndexReg) : EncodeLength.Statement (.passLdBcA ir) := by
  intro _
  cases ir <;> rfl

theorem EncodeLength.passLdDeA (ir : IndexReg) : EncodeLength.Statement (.passLdDeA ir) := by
  intro _
  cases ir <;> rfl

theorem EncodeLength.passLdNnA (ir : IndexReg) (nn : Word) : EncodeLength.Statement (.passLdNnA ir nn) := by
  intro _
  cases ir <;> rfl

theorem EncodeLength.passLdABc (ir : IndexReg) : EncodeLength.Statement (.passLdABc ir) := by
  intro _
  cases ir <;> rfl

theorem EncodeLength.passLdADe (ir : IndexReg) : EncodeLength.Statement (.passLdADe ir) := by
  intro _
  cases ir <;> rfl

theorem EncodeLength.passLdANni (ir : IndexReg) (nn : Word) : EncodeLength.Statement (.passLdANni ir nn) := by
  intro _
  cases ir <;> rfl

theorem EncodeLength.passIncRp (ir : IndexReg) (p : Fin 4) : EncodeLength.Statement (.passIncRp ir p) := by
  intro _
  cases ir <;> fin_cases p <;> rfl

theorem EncodeLength.passDecRp (ir : IndexReg) (p : Fin 4) : EncodeLength.Statement (.passDecRp ir p) := by
  intro _
  cases ir <;> fin_cases p <;> rfl

theorem EncodeLength.passIncR (ir : IndexReg) (y : Fin 8) : EncodeLength.Statement (.passIncR ir y) := by
  intro h
  cases ir <;> fin_cases y <;> first | rfl | exact absurd h Bool.false_ne_true

theorem EncodeLength.passDecR (ir : IndexReg) (y : Fin 8) : EncodeLength.Statement (.passDecR ir y) := by
  intro h
  cases ir <;> fin_cases y <;> first | rfl | exact absurd h Bool.false_ne_true

theorem EncodeLength.passLdRN (ir : IndexReg) (y : Fin 8) (n : Byte) : EncodeLength.Statement (.passLdRN ir y n) := by
  intro h
  cases ir <;> fin_cases y <;> first | rfl | exact absurd h Bool.false_ne_true

theorem EncodeLength.passRlca (ir : IndexReg) : EncodeLength.Statement (.passRlca ir) := by
  intro _
  cases ir <;> rfl

theorem EncodeLength.passRrca (ir : IndexReg) : EncodeLength.Statement (.passRrca ir) := by
  intro _
  cases ir <;> rfl

theorem EncodeLength.passRla (ir : IndexReg) : EncodeLength.Statement (.passRla ir) := by
  intro _
  cases ir <;> rfl

theorem EncodeLength.passRra (ir : IndexReg) : EncodeLength.Statement (.passRra ir) := by
  intro _
  cases ir <;> rfl

theorem EncodeLength.passDaa (ir : IndexReg) : EncodeLength.Statement (.passDaa ir) := by
  intro _
  cases ir <;> rfl

theorem EncodeLength.passCpl (ir : IndexReg) : EncodeLength.Statement (.passCpl ir) := by
  intro _
  cases ir <;> rfl

theorem EncodeLength.passScf (ir : IndexReg) : EncodeLength.Statement (.passScf ir) := by
  intro _
  cases ir <;> rfl

theorem EncodeLength.passCcf (ir : IndexReg) : EncodeLength.Statement (.passCcf ir) := by
  intro _
  cases ir <;> rfl

theorem EncodeLength.passLdRR (ir : IndexReg) (y : Fin 8) (z : Fin 8) : EncodeLength.Statement (.passLdRR ir y z) := by
  intro h
  cases ir <;> fin_cases y <;> fin_cases z <;> first | rfl | exact absurd h Bool.false_ne_true

theorem EncodeLength.passHalt (ir : IndexReg) : EncodeLength.Statement (.passHalt ir) := by
  intro _
  cases ir <;> rfl

theorem EncodeLength.passAddR (ir : IndexReg) (z : Fin 8) : EncodeLength.Statement (.passAddR ir z) := by
  intro h
  cases ir <;> fin_cases z <;> first | rfl | exact absurd h Bool.false_ne_true

theorem EncodeLength.passAdcR (ir : IndexReg) (z : Fin 8) : EncodeLength.Statement (.passAdcR ir z) := by
  intro h
  cases ir <;> fin_cases z <;> first | rfl | exact absurd h Bool.false_ne_true

theorem EncodeLength.passSubR (ir : IndexReg) (z : Fin 8) : EncodeLength.Statement (.passSubR ir z) := by
  intro h
  cases ir <;> fin_cases z <;> first | rfl | exact absurd h Bool.false_ne_true

theorem EncodeLength.passSbcR (ir : IndexReg) (z : Fin 8) : EncodeLength.Statement (.passSbcR ir z) := by
  intro h
  cases ir <;> fin_cases z <;> first | rfl | exact absurd h Bool.false_ne_true

theorem EncodeLength.passAndR (ir : IndexReg) (z : Fin 8) : EncodeLength.Statement (.passAndR ir z) := by
  intro h
  cases ir <;> fin_cases z <;> first | rfl | exact absurd h Bool.false_ne_true

theorem EncodeLength.passXorR (ir : IndexReg) (z : Fin 8) : EncodeLength.Statement (.passXorR ir z) := by
  intro h
  cases ir <;> fin_cases z <;> first | rfl | exact absurd h Bool.false_ne_true

theorem EncodeLength.passOrR (ir : IndexReg) (z : Fin 8) : EncodeLength.Statement (.passOrR ir z) := by
  intro h
  cases ir <;> fin_cases z <;> first | rfl | exact absurd h Bool.false_ne_true

theorem EncodeLength.passCpR (ir : IndexReg) (z : Fin 8) : EncodeLength.Statement (.passCpR ir z) := by
  intro h
  cases ir <;> fin_cases z <;> first | rfl | exact absurd h Bool.false_ne_true

theorem EncodeLength.passRetCc (ir : IndexReg) (y : Fin 8) : EncodeLength.Statement (.passRetCc ir y) := by
  intro _
  cases ir <;> fin_cases y <;> rfl

theorem EncodeLength.passPopRp2 (ir : IndexReg) (p : Fin 4) : EncodeLength.Statement (.passPopRp2 ir p) := by
  intro _
  cases ir <;> fin_cases p <;> rfl

theorem EncodeLength.passRet (ir : IndexReg) : EncodeLength.Statement (.passRet ir) := by
  intro _
  cases ir <;> rfl

theorem EncodeLength.passExx (ir : IndexReg) : EncodeLength.Statement (.passExx ir) := by
  intro _
  cases ir <;> rfl

theorem EncodeLength.passJpCcNn (ir : IndexReg) (y : Fin 8) (nn : Word) :
    EncodeLength.Statement (.passJpCcNn ir y nn) := by
  intro _
  cases ir <;> fin_cases y <;> rfl

theorem EncodeLength.passJpNn (ir : IndexReg) (nn : Word) : EncodeLength.Statement (.passJpNn ir nn) := by
  intro _
  cases ir <;> rfl

theorem EncodeLength.passOutNA (ir : IndexReg) (n : Byte) : EncodeLength.Statement (.passOutNA ir n) := by
  intro _
  cases ir <;> rfl

theorem EncodeLength.passInAN (ir : IndexReg) (n : Byte) : EncodeLength.Statement (.passInAN ir n) := by
  intro _
  cases ir <;> rfl

theorem EncodeLength.passExDeHl (ir : IndexReg) : EncodeLength.Statement (.passExDeHl ir) := by
  intro _
  cases ir <;> rfl

theorem EncodeLength.passDi (ir : IndexReg) : EncodeLength.Statement (.passDi ir) := by
  intro _
  cases ir <;> rfl

theorem EncodeLength.passEi (ir : IndexReg) : EncodeLength.Statement (.passEi ir) := by
  intro _
  cases ir <;> rfl

theorem EncodeLength.passCallCcNn (ir : IndexReg) (y : Fin 8) (nn : Word) :
    EncodeLength.Statement (.passCallCcNn ir y nn) := by
  intro _
  cases ir <;> fin_cases y <;> rfl

theorem EncodeLength.passPushRp2 (ir : IndexReg) (p : Fin 4) : EncodeLength.Statement (.passPushRp2 ir p) := by
  intro _
  cases ir <;> fin_cases p <;> rfl

theorem EncodeLength.passCallNn (ir : IndexReg) (nn : Word) : EncodeLength.Statement (.passCallNn ir nn) := by
  intro _
  cases ir <;> rfl

theorem EncodeLength.passAddN (ir : IndexReg) (n : Byte) : EncodeLength.Statement (.passAddN ir n) := by
  intro _
  cases ir <;> rfl

theorem EncodeLength.passAdcN (ir : IndexReg) (n : Byte) : EncodeLength.Statement (.passAdcN ir n) := by
  intro _
  cases ir <;> rfl

theorem EncodeLength.passSubN (ir : IndexReg) (n : Byte) : EncodeLength.Statement (.passSubN ir n) := by
  intro _
  cases ir <;> rfl

theorem EncodeLength.passSbcN (ir : IndexReg) (n : Byte) : EncodeLength.Statement (.passSbcN ir n) := by
  intro _
  cases ir <;> rfl

theorem EncodeLength.passAndN (ir : IndexReg) (n : Byte) : EncodeLength.Statement (.passAndN ir n) := by
  intro _
  cases ir <;> rfl

theorem EncodeLength.passXorN (ir : IndexReg) (n : Byte) : EncodeLength.Statement (.passXorN ir n) := by
  intro _
  cases ir <;> rfl

theorem EncodeLength.passOrN (ir : IndexReg) (n : Byte) : EncodeLength.Statement (.passOrN ir n) := by
  intro _
  cases ir <;> rfl

theorem EncodeLength.passCpN (ir : IndexReg) (n : Byte) : EncodeLength.Statement (.passCpN ir n) := by
  intro _
  cases ir <;> rfl

theorem EncodeLength.passRst (ir : IndexReg) (y : Fin 8) : EncodeLength.Statement (.passRst ir y) := by
  intro _
  cases ir <;> fin_cases y <;> rfl

theorem EncodeLength.xcbRlc (ir : IndexReg) (d : Byte) (z : Fin 8) : EncodeLength.Statement (.xcbRlc ir d z) := by
  intro _
  cases ir <;> rfl

theorem EncodeLength.xcbRrc (ir : IndexReg) (d : Byte) (z : Fin 8) : EncodeLength.Statement (.xcbRrc ir d z) := by
  intro _
  cases ir <;> rfl

theorem EncodeLength.xcbRl (ir : IndexReg) (d : Byte) (z : Fin 8) : EncodeLength.Statement (.xcbRl ir d z) := by
  intro _
  cases ir <;> rfl

theorem EncodeLength.xcbRr (ir : IndexReg) (d : Byte) (z : Fin 8) : EncodeLength.Statement (.xcbRr ir d z) := by
  intro _
  cases ir <;> rfl

theorem EncodeLength.xcbSla (ir : IndexReg) (d : Byte) (z : Fin 8) : EncodeLength.Statement (.xcbSla ir d z) := by
  intro _
  cases ir <;> rfl

theorem EncodeLength.xcbSra (ir : IndexReg) (d : Byte) (z : Fin 8) : EncodeLength.Statement (.xcbSra ir d z) := by
  intro _
  cases ir <;> rfl

theorem EncodeLength.xcbSll (ir : IndexReg) (d : Byte) (z : Fin 8) : EncodeLength.Statement (.xcbSll ir d z) := by
  intro _
  cases ir <;> rfl

theorem EncodeLength.xcbSrl (ir : IndexReg) (d : Byte) (z : Fin 8) : EncodeLength.Statement (.xcbSrl ir d z) := by
  intro _
  cases ir <;> rfl

theorem EncodeLength.xcbBit (ir : IndexReg) (d : Byte) (y : Fin 8) (z : Fin 8) :
    EncodeLength.Statement (.xcbBit ir d y z) := by
  intro _
  cases ir <;> rfl

theorem EncodeLength.xcbRes (ir : IndexReg) (d : Byte) (y : Fin 8) (z : Fin 8) :
    EncodeLength.Statement (.xcbRes ir d y z) := by
  intro _
  cases ir <;> rfl

theorem EncodeLength.xcbSet (ir : IndexReg) (d : Byte) (y : Fin 8) (z : Fin 8) :
    EncodeLength.Statement (.xcbSet ir d y z) := by
  intro _
  cases ir <;> rfl

end Sys2Proof.Laws
end

