-- ==== Sys2Proof/Tests/Slice0.lean ====
section
/-! SUPPORT. The model's own tests: ill-formed terms the check refuses, words of every form decoded, single steps against
the vectors of spec/95_test_vectors.md, and for every statement a state and operands that meet its hypotheses. -/

namespace Sys2Proof.Tests

open Sys2Proof.Machine

/-! ## Small states -/

/-- An open session over the memory `m`, the cursor at `a`. -/
def sessionAt (m : Memory) (a : Word) : State :=
  { State.reset with rst := .released, sync := .boundary, z80Place := .cycle (.fetch 0), memory := m, pc := a }

/-- An open session over memory with nothing listed. -/
def session : State := sessionAt [] 0

/-- An open session, HL loaded with `a`. -/
def loadedAt (a : Word) : State := { session with z80HL := a, hlLoaded := true }

/-- A session over `bytes` placed at `a`, the cursor on the first of them, no call pending. -/
def holding (bytes : List Byte) (a : Word) : State := sessionAt (placeBytes bytes a []) a

/-- The pins released and no session open. -/
def lost : State := { session with sync := .lost }

/-- No session open, a broken caller having left the override asserted and the bus driven. -/
def broken : State := { session with sync := .lost, ramOvr := .asserted, dbusDir := .out }

/-- The override asserted and the bus driven, as inside a schedule. -/
def driving : State := { session with ramOvr := .asserted, dbusDir := .out }

/-- The override asserted, the bus not driven. -/
def held : State := { session with ramOvr := .asserted }

/-- The bus driven without the override: a state no run reaches. -/
def fighting : State := { session with dbusDir := .out }

/-- What a step or an operation leaves, seen through `f`; nothing where it stops. -/
def seen {α β : Type} (f : α → β) : Host.Outcome α Fault Refusal → Option β
  | .next a => some (f a)
  | .fault _ => none
  | .refused _ => none

/-- The text, the length and the addresses read of one step over `bytes` placed at `a`. -/
def listed (bytes : List Byte) (a : Word) : Option (Text × Word × List Word) :=
  seen (fun t => (returnedText t, t.pc, t.readTrace)) (step (holding bytes a))

/-! ## Ill-formed terms are refused -/

theorem test_illformed_register : wellFormed (.incR 6) = false ∧ wellFormed (.ldRR 6 0) = false ∧
    wellFormed (.ldRR 0 6) = false ∧ wellFormed (.addR 6) = false ∧ wellFormed (.inRC 6) = false ∧
    wellFormed (.outCR 6) = false ∧ wellFormed (.ldRID .ix 6 0) = false ∧ wellFormed (.passLdRN .iy 6 0) = false := by
  decide

theorem test_illformed_jr_condition : wellFormed (.jrCc 3 0) = false ∧ wellFormed (.passJrCc .ix 0 0) = false := by decide

theorem test_illformed_retn : wellFormed (.retn 1) = false := by decide

theorem test_illformed_nop_column : wellFormed (.edNopX1 5) = false := by decide

theorem test_illformed_nop_block : wellFormed (.edNopX2 4 0) = false ∧ wellFormed (.edNopX2 7 3) = false := by decide

theorem test_illformed_pass_pair : wellFormed (.passLdRpNn .ix 2 0) = false ∧ wellFormed (.passPopRp2 .iy 2) = false ∧
    wellFormed (.passIncRp .ix 2) = false ∧ wellFormed (.passPushRp2 .iy 2) = false := by decide

/-! ## One word of every form (the encodings of files 43 to 48; the words are those of 95_test_vectors.md section 4 where
it has the form) -/

theorem test_decode_unprefixed_x0 :
    decode 0x00 0x00 0x00 0x00 = .nop ∧ decode 0x08 0x00 0x00 0x00 = .exAfAf ∧
    decode 0x10 0xFE 0x00 0x00 = .djnz 0xFE ∧ decode 0x18 0x05 0x00 0x00 = .jr 0x05 ∧
    decode 0x20 0x00 0x00 0x00 = .jrCc 4 0x00 ∧ decode 0x01 0x34 0x12 0x00 = .ldRpNn 0 0x1234 ∧
    decode 0x09 0x00 0x00 0x00 = .addHlRp 0 ∧ decode 0x02 0x00 0x00 0x00 = .ldBcA ∧
    decode 0x12 0x00 0x00 0x00 = .ldDeA ∧ decode 0x22 0x34 0x12 0x00 = .ldNnHl 0x1234 ∧
    decode 0x32 0x00 0xC0 0x00 = .ldNnA 0xC000 ∧ decode 0x0A 0x00 0x00 0x00 = .ldABc ∧
    decode 0x1A 0x00 0x00 0x00 = .ldADe ∧ decode 0x2A 0x34 0x12 0x00 = .ldHlNni 0x1234 ∧
    decode 0x3A 0x07 0x00 0x00 = .ldANni 0x0007 ∧ decode 0x03 0x00 0x00 0x00 = .incRp 0 ∧
    decode 0x0B 0x00 0x00 0x00 = .decRp 0 ∧ decode 0x04 0x00 0x00 0x00 = .incR 0 ∧
    decode 0x34 0x00 0x00 0x00 = .incM ∧ decode 0x05 0x00 0x00 0x00 = .decR 0 ∧ decode 0x35 0x00 0x00 0x00 = .decM ∧
    decode 0x06 0x0A 0x00 0x00 = .ldRN 0 0x0A ∧ decode 0x36 0x20 0x00 0x00 = .ldMN 0x20 ∧
    decode 0x07 0x00 0x00 0x00 = .rlca ∧ decode 0x0F 0x00 0x00 0x00 = .rrca ∧ decode 0x17 0x00 0x00 0x00 = .rla ∧
    decode 0x1F 0x00 0x00 0x00 = .rra ∧ decode 0x27 0x00 0x00 0x00 = .daa ∧ decode 0x2F 0x00 0x00 0x00 = .cpl ∧
    decode 0x37 0x00 0x00 0x00 = .scf ∧ decode 0x3F 0x00 0x00 0x00 = .ccf := by
  decide

theorem test_decode_unprefixed_x1 :
    decode 0x40 0x00 0x00 0x00 = .ldRR 0 0 ∧ decode 0x46 0x00 0x00 0x00 = .ldRM 0 ∧
    decode 0x70 0x00 0x00 0x00 = .ldMR 0 ∧ decode 0x76 0x00 0x00 0x00 = .halt := by
  decide

theorem test_decode_unprefixed_x2 :
    decode 0x80 0x00 0x00 0x00 = .addR 0 ∧ decode 0x86 0x00 0x00 0x00 = .addM ∧ decode 0x88 0x00 0x00 0x00 = .adcR 0 ∧
    decode 0x8E 0x00 0x00 0x00 = .adcM ∧ decode 0x90 0x00 0x00 0x00 = .subR 0 ∧ decode 0x96 0x00 0x00 0x00 = .subM ∧
    decode 0x98 0x00 0x00 0x00 = .sbcR 0 ∧ decode 0x9E 0x00 0x00 0x00 = .sbcM ∧ decode 0xA0 0x00 0x00 0x00 = .andR 0 ∧
    decode 0xA6 0x00 0x00 0x00 = .andM ∧ decode 0xA8 0x00 0x00 0x00 = .xorR 0 ∧ decode 0xAE 0x00 0x00 0x00 = .xorM ∧
    decode 0xB0 0x00 0x00 0x00 = .orR 0 ∧ decode 0xB6 0x00 0x00 0x00 = .orM ∧ decode 0xB8 0x00 0x00 0x00 = .cpR 0 ∧
    decode 0xBE 0x00 0x00 0x00 = .cpM := by
  decide

theorem test_decode_unprefixed_x3 :
    decode 0xC0 0x00 0x00 0x00 = .retCc 0 ∧ decode 0xC1 0x00 0x00 0x00 = .popRp2 0 ∧
    decode 0xC9 0x00 0x00 0x00 = .ret ∧ decode 0xD9 0x00 0x00 0x00 = .exx ∧ decode 0xE9 0x00 0x00 0x00 = .jpHl ∧
    decode 0xF9 0x00 0x00 0x00 = .ldSpHl ∧ decode 0xC2 0x34 0x12 0x00 = .jpCcNn 0 0x1234 ∧
    decode 0xC3 0x00 0x00 0x00 = .jpNn 0x0000 ∧ decode 0xD3 0x01 0x00 0x00 = .outNA 0x01 ∧
    decode 0xDB 0xFE 0x00 0x00 = .inAN 0xFE ∧ decode 0xE3 0x00 0x00 0x00 = .exSpHl ∧
    decode 0xEB 0x00 0x00 0x00 = .exDeHl ∧ decode 0xF3 0x00 0x00 0x00 = .di ∧ decode 0xFB 0x00 0x00 0x00 = .ei ∧
    decode 0xC4 0x34 0x12 0x00 = .callCcNn 0 0x1234 ∧ decode 0xC5 0x00 0x00 0x00 = .pushRp2 0 ∧
    decode 0xCD 0x05 0x00 0x00 = .callNn 0x0005 ∧ decode 0xC6 0x01 0x00 0x00 = .addN 0x01 ∧
    decode 0xCE 0x02 0x00 0x00 = .adcN 0x02 ∧ decode 0xD6 0x03 0x00 0x00 = .subN 0x03 ∧
    decode 0xDE 0x04 0x00 0x00 = .sbcN 0x04 ∧ decode 0xE6 0x0F 0x00 0x00 = .andN 0x0F ∧
    decode 0xEE 0xFF 0x00 0x00 = .xorN 0xFF ∧ decode 0xF6 0x80 0x00 0x00 = .orN 0x80 ∧
    decode 0xFE 0x0D 0x00 0x00 = .cpN 0x0D ∧ decode 0xC7 0x00 0x00 0x00 = .rst 0 := by
  decide

theorem test_decode_cb :
    decode 0xCB 0x00 0x00 0x00 = .cbRlc 0 ∧ decode 0xCB 0x0F 0x00 0x00 = .cbRrc 7 ∧
    decode 0xCB 0x11 0x00 0x00 = .cbRl 1 ∧ decode 0xCB 0x1A 0x00 0x00 = .cbRr 2 ∧
    decode 0xCB 0x23 0x00 0x00 = .cbSla 3 ∧ decode 0xCB 0x2C 0x00 0x00 = .cbSra 4 ∧
    decode 0xCB 0x30 0x00 0x00 = .cbSll 0 ∧ decode 0xCB 0x3F 0x00 0x00 = .cbSrl 7 ∧
    decode 0xCB 0x47 0x00 0x00 = .cbBit 0 7 ∧ decode 0xCB 0x80 0x00 0x00 = .cbRes 0 0 ∧
    decode 0xCB 0xC0 0x00 0x00 = .cbSet 0 0 := by
  decide

theorem test_decode_ed :
    decode 0xED 0x40 0x00 0x00 = .inRC 0 ∧ decode 0xED 0x70 0x00 0x00 = .inC ∧ decode 0xED 0x41 0x00 0x00 = .outCR 0 ∧
    decode 0xED 0x71 0x00 0x00 = .outC0 ∧ decode 0xED 0x42 0x00 0x00 = .sbcHlRp 0 ∧
    decode 0xED 0x4A 0x00 0x00 = .adcHlRp 0 ∧ decode 0xED 0x43 0x34 0x12 = .ldNnRp 0 0x1234 ∧
    decode 0xED 0x4B 0x34 0x12 = .ldRpNni 0 0x1234 ∧ decode 0xED 0x44 0x00 0x00 = .neg 0 ∧
    decode 0xED 0x45 0x00 0x00 = .retn 0 ∧ decode 0xED 0x4D 0x00 0x00 = .reti ∧ decode 0xED 0x46 0x00 0x00 = .im 0 ∧
    decode 0xED 0x47 0x00 0x00 = .ldIA ∧ decode 0xED 0x4F 0x00 0x00 = .ldRA ∧ decode 0xED 0x57 0x00 0x00 = .ldAI ∧
    decode 0xED 0x5F 0x00 0x00 = .ldAR ∧ decode 0xED 0x67 0x00 0x00 = .rrd ∧ decode 0xED 0x6F 0x00 0x00 = .rld ∧
    decode 0xED 0x77 0x00 0x00 = .edNopX1 6 ∧ decode 0xED 0xA0 0x00 0x00 = .ldi ∧ decode 0xED 0xA1 0x00 0x00 = .cpi ∧
    decode 0xED 0xA2 0x00 0x00 = .ini ∧ decode 0xED 0xA3 0x00 0x00 = .outi ∧ decode 0xED 0xA8 0x00 0x00 = .ldd ∧
    decode 0xED 0xA9 0x00 0x00 = .cpd ∧ decode 0xED 0xAA 0x00 0x00 = .ind ∧ decode 0xED 0xAB 0x00 0x00 = .outd ∧
    decode 0xED 0xB0 0x00 0x00 = .ldir ∧ decode 0xED 0xB1 0x00 0x00 = .cpir ∧ decode 0xED 0xB2 0x00 0x00 = .inir ∧
    decode 0xED 0xB3 0x00 0x00 = .otir ∧ decode 0xED 0xB8 0x00 0x00 = .lddr ∧ decode 0xED 0xB9 0x00 0x00 = .cpdr ∧
    decode 0xED 0xBA 0x00 0x00 = .indr ∧ decode 0xED 0xBB 0x00 0x00 = .otdr ∧
    decode 0xED 0x80 0x00 0x00 = .edNopX2 0 0 ∧ decode 0xED 0x00 0x00 0x00 = .edNopX0 0 0 ∧
    decode 0xED 0xC0 0x00 0x00 = .edNopX3 0 0 := by
  decide

theorem test_decode_index :
    decode 0xDD 0xDD 0x00 0x00 = .loneDdFd .ix .ix ∧ decode 0xDD 0xED 0x00 0x00 = .loneEd .ix ∧
    decode 0xDD 0x09 0x00 0x00 = .addIRp .ix 0 ∧ decode 0xDD 0x21 0x34 0x12 = .ldINn .ix 0x1234 ∧
    decode 0xDD 0x22 0x34 0x12 = .ldNnI .ix 0x1234 ∧ decode 0xDD 0x23 0x00 0x00 = .incI .ix ∧
    decode 0xFD 0x2A 0x34 0x12 = .ldINni .iy 0x1234 ∧ decode 0xFD 0x2B 0x00 0x00 = .decI .iy ∧
    decode 0xDD 0x34 0x05 0x00 = .incID .ix 0x05 ∧ decode 0xFD 0x35 0xFB 0x00 = .decID .iy 0xFB ∧
    decode 0xDD 0x36 0x10 0x20 = .ldIDN .ix 0x10 0x20 ∧ decode 0xDD 0x46 0x01 0x00 = .ldRID .ix 0 0x01 ∧
    decode 0xDD 0x70 0x00 0x00 = .ldIDR .ix 0x00 0 ∧ decode 0xDD 0x86 0x05 0x00 = .addID .ix 0x05 ∧
    decode 0xDD 0x8E 0x05 0x00 = .adcID .ix 0x05 ∧ decode 0xDD 0x96 0x05 0x00 = .subID .ix 0x05 ∧
    decode 0xDD 0x9E 0x05 0x00 = .sbcID .ix 0x05 ∧ decode 0xFD 0xA6 0x05 0x00 = .andID .iy 0x05 ∧
    decode 0xFD 0xAE 0x05 0x00 = .xorID .iy 0x05 ∧ decode 0xFD 0xB6 0x05 0x00 = .orID .iy 0x05 ∧
    decode 0xFD 0xBE 0x05 0x00 = .cpID .iy 0x05 ∧ decode 0xDD 0xE1 0x00 0x00 = .popI .ix ∧
    decode 0xDD 0xE3 0x00 0x00 = .exSpI .ix ∧ decode 0xDD 0xE5 0x00 0x00 = .pushI .ix ∧
    decode 0xDD 0xE9 0x00 0x00 = .jpI .ix ∧ decode 0xDD 0xF9 0x00 0x00 = .ldSpI .ix := by
  decide

theorem test_decode_pass_x0 :
    decode 0xDD 0x00 0x00 0x00 = .passNop .ix ∧ decode 0xFD 0x08 0x00 0x00 = .passExAfAf .iy ∧
    decode 0xDD 0x10 0xFB 0x00 = .passDjnz .ix 0xFB ∧ decode 0xFD 0x18 0xFE 0x00 = .passJr .iy 0xFE ∧
    decode 0xDD 0x38 0xFB 0x00 = .passJrCc .ix 7 0xFB ∧ decode 0xFD 0x01 0x00 0x80 = .passLdRpNn .iy 0 0x8000 ∧
    decode 0xDD 0x02 0x00 0x00 = .passLdBcA .ix ∧ decode 0xFD 0x12 0x00 0x00 = .passLdDeA .iy ∧
    decode 0xDD 0x32 0x34 0x12 = .passLdNnA .ix 0x1234 ∧ decode 0xFD 0x0A 0x00 0x00 = .passLdABc .iy ∧
    decode 0xDD 0x1A 0x00 0x00 = .passLdADe .ix ∧ decode 0xFD 0x3A 0x34 0x12 = .passLdANni .iy 0x1234 ∧
    decode 0xDD 0x33 0x00 0x00 = .passIncRp .ix 3 ∧ decode 0xFD 0x3B 0x00 0x00 = .passDecRp .iy 3 ∧
    decode 0xDD 0x3C 0x00 0x00 = .passIncR .ix 7 ∧ decode 0xFD 0x3D 0x00 0x00 = .passDecR .iy 7 ∧
    decode 0xDD 0x3E 0x2A 0x00 = .passLdRN .ix 7 0x2A ∧ decode 0xFD 0x07 0x00 0x00 = .passRlca .iy ∧
    decode 0xDD 0x0F 0x00 0x00 = .passRrca .ix ∧ decode 0xFD 0x17 0x00 0x00 = .passRla .iy ∧
    decode 0xDD 0x1F 0x00 0x00 = .passRra .ix ∧ decode 0xFD 0x27 0x00 0x00 = .passDaa .iy ∧
    decode 0xDD 0x2F 0x00 0x00 = .passCpl .ix ∧ decode 0xFD 0x37 0x00 0x00 = .passScf .iy ∧
    decode 0xDD 0x3F 0x00 0x00 = .passCcf .ix := by
  decide

theorem test_decode_pass_x1 :
    decode 0xDD 0x44 0x00 0x00 = .passLdRR .ix 0 4 ∧ decode 0xDD 0x76 0x00 0x00 = .passHalt .ix := by
  decide

theorem test_decode_pass_x2 :
    decode 0xDD 0x84 0x00 0x00 = .passAddR .ix 4 ∧ decode 0xDD 0x8F 0x00 0x00 = .passAdcR .ix 7 ∧
    decode 0xFD 0x97 0x00 0x00 = .passSubR .iy 7 ∧ decode 0xDD 0x9F 0x00 0x00 = .passSbcR .ix 7 ∧
    decode 0xFD 0xA7 0x00 0x00 = .passAndR .iy 7 ∧ decode 0xDD 0xAF 0x00 0x00 = .passXorR .ix 7 ∧
    decode 0xFD 0xB7 0x00 0x00 = .passOrR .iy 7 ∧ decode 0xDD 0xBF 0x00 0x00 = .passCpR .ix 7 := by
  decide

theorem test_decode_pass_x3 :
    decode 0xFD 0xF8 0x00 0x00 = .passRetCc .iy 7 ∧ decode 0xDD 0xF1 0x00 0x00 = .passPopRp2 .ix 3 ∧
    decode 0xFD 0xC9 0x00 0x00 = .passRet .iy ∧ decode 0xDD 0xD9 0x00 0x00 = .passExx .ix ∧
    decode 0xFD 0xFA 0x34 0x12 = .passJpCcNn .iy 7 0x1234 ∧ decode 0xDD 0xC3 0x34 0x12 = .passJpNn .ix 0x1234 ∧
    decode 0xFD 0xD3 0x2A 0x00 = .passOutNA .iy 0x2A ∧ decode 0xDD 0xDB 0x2A 0x00 = .passInAN .ix 0x2A ∧
    decode 0xDD 0xEB 0x00 0x00 = .passExDeHl .ix ∧ decode 0xDD 0xF3 0x00 0x00 = .passDi .ix ∧
    decode 0xFD 0xFB 0x00 0x00 = .passEi .iy ∧ decode 0xDD 0xFC 0x34 0x12 = .passCallCcNn .ix 7 0x1234 ∧
    decode 0xFD 0xF5 0x00 0x00 = .passPushRp2 .iy 3 ∧ decode 0xDD 0xCD 0x34 0x12 = .passCallNn .ix 0x1234 ∧
    decode 0xFD 0xC6 0x2A 0x00 = .passAddN .iy 0x2A ∧ decode 0xDD 0xCE 0x2A 0x00 = .passAdcN .ix 0x2A ∧
    decode 0xFD 0xD6 0x2A 0x00 = .passSubN .iy 0x2A ∧ decode 0xDD 0xDE 0x2A 0x00 = .passSbcN .ix 0x2A ∧
    decode 0xFD 0xE6 0x2A 0x00 = .passAndN .iy 0x2A ∧ decode 0xDD 0xEE 0x2A 0x00 = .passXorN .ix 0x2A ∧
    decode 0xFD 0xF6 0x2A 0x00 = .passOrN .iy 0x2A ∧ decode 0xDD 0xFE 0x2A 0x00 = .passCpN .ix 0x2A ∧
    decode 0xFD 0xFF 0x00 0x00 = .passRst .iy 7 := by
  decide

theorem test_decode_indexcb :
    decode 0xDD 0xCB 0x05 0x06 = .xcbRlc .ix 0x05 6 ∧ decode 0xFD 0xCB 0xFB 0x0E = .xcbRrc .iy 0xFB 6 ∧
    decode 0xDD 0xCB 0x00 0x16 = .xcbRl .ix 0x00 6 ∧ decode 0xDD 0xCB 0x01 0x1E = .xcbRr .ix 0x01 6 ∧
    decode 0xDD 0xCB 0x02 0x26 = .xcbSla .ix 0x02 6 ∧ decode 0xDD 0xCB 0x03 0x2E = .xcbSra .ix 0x03 6 ∧
    decode 0xDD 0xCB 0x04 0x36 = .xcbSll .ix 0x04 6 ∧ decode 0xDD 0xCB 0x05 0x3E = .xcbSrl .ix 0x05 6 ∧
    decode 0xDD 0xCB 0x05 0x46 = .xcbBit .ix 0x05 0 6 ∧ decode 0xDD 0xCB 0x10 0x86 = .xcbRes .ix 0x10 0 6 ∧
    decode 0xDD 0xCB 0x10 0xC6 = .xcbSet .ix 0x10 0 6 := by
  decide

/-! ## Single steps (the sources are the rows of 95_test_vectors.md) -/

theorem test_nop_at_top : listed [0x00] 0xFFFF = some (['N', 'O', 'P'], 0x0000, [0xFFFF]) := by
  decide

theorem test_ld_hl_nn_wraps : listed [0x21, 0x34, 0x12] 0xFFFE = some (['L', 'D', ' ', 'H', 'L', ',', '1', '2', '3', '4'], 0x0001, [0xFFFE, 0xFFFF, 0x0000]) := by
  decide

theorem test_ld_sp_keeps_zeros : listed [0x31, 0xFF, 0x00] 0x0100 = some (['L', 'D', ' ', 'S', 'P', ',', '0', '0', 'F', 'F'], 0x0103, [0x0100, 0x0101, 0x0102]) := by
  decide

theorem test_djnz_raw_displacement : listed [0x10, 0xFE] 0x0100 = some (['D', 'J', 'N', 'Z', ' ', 'F', 'E'], 0x0102, [0x0100, 0x0101]) := by
  decide

theorem test_jp_wraps : listed [0xC3, 0x00, 0x10] 0xFFFF = some (['J', 'P', ' ', '1', '0', '0', '0'], 0x0002, [0xFFFF, 0x0000, 0x0001]) := by
  decide

theorem test_rst_38 : listed [0xFF] 0x0100 = some (['R', 'S', 'T', ' ', '3', '8'], 0x0101, [0x0100]) := by
  decide

theorem test_ex_af : listed [0x08] 0x0100 = some (['E', 'X', ' ', 'A', 'F', ',', 'A', 'F', '\''], 0x0101, [0x0100]) := by
  decide

theorem test_cb_bit : listed [0xCB, 0x47] 0x0100 = some (['B', 'I', 'T', ' ', '0', ',', 'A'], 0x0102, [0x0100, 0x0101]) := by
  decide

theorem test_ed_ld_nn_bc_wraps : listed [0xED, 0x43, 0xCD, 0xAB] 0xFFFE = some (['L', 'D', ' ', '(', 'A', 'B', 'C', 'D', ')', ',', 'B', 'C'], 0x0002, [0xFFFE, 0xFFFF, 0x0000, 0x0001]) := by
  decide

theorem test_ed_im : listed [0xED, 0x4E] 0x0100 = some (['I', 'M', ' ', '0', '/', '1'], 0x0102, [0x0100, 0x0101]) := by
  decide

theorem test_ed_fallback : listed [0xED, 0x77] 0x0100 = some (['N', 'O', 'P'], 0x0102, [0x0100, 0x0101]) := by
  decide

theorem test_lone_prefix_looks_ahead : listed [0xDD, 0xDD] 0xFFFF = some (['N', 'O', 'P'], 0x0000, [0xFFFF, 0x0000]) := by
  decide

theorem test_add_ix_ix : listed [0xDD, 0x29] 0x0100 = some (['A', 'D', 'D', ' ', 'I', 'X', ',', 'I', 'X'], 0x0102, [0x0100, 0x0101]) := by
  decide

theorem test_ld_id_n : listed [0xDD, 0x36, 0x10, 0x20] 0x0100 = some (['L', 'D', ' ', '(', 'I', 'X', '+', '1', '0', ')', ',', '2', '0'], 0x0104, [0x0100, 0x0101, 0x0102, 0x0103]) := by
  decide

theorem test_ld_l_iy : listed [0xFD, 0x6E, 0x06] 0x0100 = some (['L', 'D', ' ', 'L', ',', '(', 'I', 'Y', '+', '0', '6', ')'], 0x0103, [0x0100, 0x0101, 0x0102]) := by
  decide

theorem test_pass_keeps_names : listed [0xFD, 0x6C] 0x0100 = some (['L', 'D', ' ', 'L', ',', 'H'], 0x0102, [0x0100, 0x0101]) := by
  decide

theorem test_ddcb_wraps : listed [0xDD, 0xCB, 0x05, 0x46] 0xFFFD = some (['B', 'I', 'T', ' ', '0', ',', '(', 'I', 'X', '+', '0', '5', ')'], 0x0001, [0xFFFD, 0xFFFE, 0xFFFF, 0x0000]) := by
  decide

theorem test_fdcb_register : listed [0xFD, 0xCB, 0x10, 0xFF] 0x0100 = some (['S', 'E', 'T', ' ', '7', ',', 'A'], 0x0104, [0x0100, 0x0101, 0x0102, 0x0103]) := by
  decide

/-- Q1, S10: the trace and the pulses of `resetCpu`. -/
theorem test_resetCpu : seen (fun t => (t.pinTrace, t.pulseTotal, t.sync, t.z80PC)) (resetCpu lost) =
    some ([.rstAssert, .pulse, .pulse, .pulse, .pulse, .pulse, .pulse, .rstRelease, .pulse, .pulse], 8, .boundary, 0) := by
  decide

/-- Q2: `loadIndexRegister(0x8000)`. -/
theorem test_loadIndexRegister : seen (fun t => (t.pinTrace, t.z80HL, t.z80PC)) (loadIndexRegister 0x8000 session) =
    some ([.pulse, .ovrAssert, .driveData 0x21, .pulse, .pulse, .releaseData, .pulse, .pulse, .driveData 0x00,
      .pulse, .pulse, .pulse, .driveData 0x80, .pulse, .pulse, .releaseData, .ovrRelease], 0x8000, 3) := by
  decide

/-- Q3: the forced `LD A,(HL)` of `readByte`, HL loaded already. -/
theorem test_readByte : seen (fun r => (r.1, r.2.z80HL, r.2.z80A, r.2.pulseTotal, r.2.pinTrace.drop 17))
    (readByte 0x0100 (holding [0xC3] 0x0100)) =
    some (0xC3, 0x0100, 0xC3, 17, [.pulse, .ovrAssert, .driveData 0x7E, .pulse, .pulse, .releaseData, .ovrRelease,
      .pulse, .pulse, .pulse, .sample 0xC3, .pulse]) := by
  decide

/-- Q7: `writeByte(0xFFFF, 0x11)`; HL wraps. -/
theorem test_writeByte_wraps : seen (fun t => (t.memory, t.z80HL, t.pulseTotal, t.pinTrace))
    (writeByte 0xFFFF 0x11 (loadedAt 0xFFFF)) =
    some ([(0xFFFF, 0x11)], 0x0000, 16, [.pulse, .ovrAssert, .driveData 0x36, .pulse, .pulse, .releaseData, .pulse,
      .pulse, .driveData 0x11, .pulse, .pulse, .releaseData, .ovrRelease, .pulse, .pulse, .pulse, .pulse, .ovrAssert,
      .driveData 0x23, .pulse, .pulse, .releaseData, .ovrRelease, .pulse, .pulse, .pulse]) := by
  decide

/-- S4, Q5: the first byte is the more significant one. -/
theorem test_readWord : seen (fun r => (r.1, r.2.z80HL, r.2.pulseTotal)) (readWord 0x0101 (holding [0x34, 0x12] 0x0101)) =
    some (0x3412, 0x0102, 34) := by
  decide

/-- Q6: the second byte comes from address 0. -/
theorem test_readWord_wraps : seen (fun r => (r.1, r.2.z80HL)) (readWord 0xFFFF (holding [0xAB, 0xCD] 0xFFFF)) =
    some (0xABCD, 0x0000) := by
  decide

/-- S5: a byte written reads back. -/
theorem test_write_then_read : seen (fun r => r.1) (andThen (memWrite 0x4000 0xA5 session) (readByte 0x4000)) =
    some 0xA5 := by
  decide

/-- X1, P4 step 6: a write elsewhere than at the cursor is refused. -/
theorem test_write_elsewhere : writeByte 0x8000 0x55 (loadedAt 0x7FFF) = .refused .cursorMismatch := rfl

/-- X2: a write just after `resetCpu` is refused. -/
theorem test_write_unloaded : andThen (resetCpu lost) (writeByte 0 0) = .refused .cursorNotLoaded := rfl

/-- X3: before any `resetCpu` a read still makes its 17 pulses, releases the pins and leaves `sync` UNKNOWN. -/
theorem test_read_unknown : seen (fun r => (r.2.pulseTotal, r.2.sync, r.2.ramOvr, r.2.dbusDir)) (readByte 5 State.reset) =
    some (17, .unknown, .released, .inPullup) := by
  decide

/-- X6: a pulse called directly in a session is a desync, and nothing is signalled. -/
theorem test_direct_pulse : seen (fun t => (t.sync, t.pinTrace)) (step { session with calls := [.primitive (.pulse 1)] }) =
    some (.lost, [.pulse]) := by
  decide

/-- X7: driving without the override is a bus fight. -/
theorem test_bus_fight : step { session with calls := [.primitive (.setDataBusOutput 0x21)] } = .fault .busFight := rfl

/-- X8: `resetCpu` does not repair the override. -/
theorem test_reset_override_left : resetCpu held = .refused .overrideLeftAsserted := rfl

/-- `swap16(0x3412) = 0x1234` (95_test_vectors.md section 2). -/
theorem test_swap16 : swap16 0x3412 = 0x1234 ∧ swap16 0x00FF = 0xFF00 := by decide

/-- A table word of a row with operand bytes left out, placed and run (`LD IX,nn`, log 6). -/
theorem test_table_word : decodeTableWord 32 0xDD21 = some (.ldINn .ix 0) ∧
    seen returnedText (step (State.reset.withFetchWord 32 0xDD21)) =
      some ['L', 'D', ' ', 'I', 'X', ',', '0', '0', '0', '0'] := by
  decide

/-- R115 on the schedule of `LD HL,nn`, T-state by T-state: HL is loaded and nothing fights. -/
theorem test_tstates : (TState.runSchedule (scheduleLdHlNn 0x1234) (TState.ofState session)).hl = 0x1234 ∧
    (TState.runSchedule (scheduleLdHlNn 0x1234) (TState.ofState session)).fought = false := by
  decide

/-- R371 (b): after an unpaired assertion a `readByte` still makes its 17 pulses and leaves the pins at rest. -/
theorem test_direct_unpaired_assert : seen (fun t => (t.sync, t.ramOvr, t.dbusDir, t.pulseTotal))
    (andThen (step { session with calls := [.primitive .assertRamOverride, .readByte 5] }) step) =
    some (.lost, .released, .inPullup, 17) := by
  decide

/-- R371 (b), the reverse: an unpaired release is a desync. -/
theorem test_direct_unpaired_release : seen (fun t => (t.sync, t.ramOvr))
    (step { session with calls := [.primitive .releaseRamOverride] }) = some (.lost, .released) := by
  decide

/-- R392: after `resetCpu` the maskable interrupts are disabled and the mode is 0. -/
theorem test_resetCpu_interrupts : seen (fun t => (t.z80IntEnable, t.z80IntMode))
    (resetCpu { lost with z80IntEnable := true, z80IntMode := .mode2 }) = some (false, .mode0) := by
  decide

/-- R401: a `writeByte` is two opcode fetches; R counts them in its seven bits, F stays. -/
theorem test_refresh_wraps : seen (fun t => (t.z80R, t.z80F))
    (writeByte 0 0x11 { loadedAt 0 with z80R := 0xFF, z80F := 0x41 }) = some (0x81, 0x41) := by
  decide

/-- R100, R115: two direct calls of one pulse are one call of two: no byte of the fetch is taken yet. -/
theorem test_pulses_add_up : seen (fun t => (t.sync, t.pulseTotal, t.memory, t.z80Place))
      (andThen (step { session with calls := [.primitive (.pulse 1), .primitive (.pulse 1)] }) step) =
      some (.lost, 2, [], .cycle (.fetch 2)) ∧
    seen (fun t => (t.sync, t.pulseTotal, t.memory, t.z80Place))
      (step { session with calls := [.primitive (.pulse 2)] }) = some (.lost, 2, [], .cycle (.fetch 2)) := ⟨rfl, rfl⟩

/-- R398, R115: the third pulse takes an opcode from real RAM; past one outside the four anything may change. -/
theorem test_extra_pulses : seen (fun t => (t.memory, t.z80PC, t.z80Place))
      (step { session with calls := [.primitive (.pulse 3)] }) = some ([], 1, .unknown) ∧
    seen (fun t => t.memory) (step { session with calls := [.primitive (.pulse 4)] }) =
      some (Memory.writeAll [] (Config.scramble 0)) := ⟨rfl, rfl⟩

/-- R23: where the Z80's place is not known a pulse may change memory, but not behind the override. -/
theorem test_override_keeps_memory : seen (fun t => (t.memory, t.z80HL))
    (step { broken with z80Place := .unknown, calls := [.primitive (.pulse 1)] }) =
      some ([], Config.freeHL 0) := rfl

/-- R115: the write of `LD (HL),n` lands in the third T-state of its cycle, if the RAM is not overridden. -/
theorem test_direct_write : seen (fun t => t.memory)
      (step { loadedAt 7 with z80Place := .cycle (.writeHl 0x55 2), calls := [.primitive (.pulse 1)] }) = some [(7, 0x55)] ∧
    seen (fun t => t.memory) (step { loadedAt 7 with
      ramOvr := .asserted, z80Place := .cycle (.writeHl 0x55 2), calls := [.primitive (.pulse 1)] }) = some [] :=
  ⟨rfl, rfl⟩

/-- R115: `INC HL` driven under the override, from the third T-state of its fetch on; HL wraps. -/
theorem test_direct_incHl : seen (fun t => (t.z80HL, t.z80Place))
    (step { broken with
      z80HL := 0xFFFF, dbusOut := 0x23, z80Place := .cycle (.fetch 2), calls := [.primitive (.pulse 4)] }) =
    some (0x0000, .cycle (.fetch 0)) := rfl

/-- R24, R103, R115: two T-states into a fetch a direct sample sees the RAM's byte, or the pull-up under the override. -/
theorem test_direct_sample : seen (fun t => t.returned) (step { holding [0xC3] 0 with
      z80Place := .cycle (.fetch 2), calls := [.primitive .sampleDataBus] }) = some (some (.byte 0xC3)) ∧
    seen (fun t => t.returned) (step { holding [0xC3] 0 with
      ramOvr := .asserted, z80Place := .cycle (.fetch 2), calls := [.primitive .sampleDataBus] }) =
      some (some (.byte 0xFF)) := ⟨rfl, rfl⟩

/-- U3: a controller that drives in a write cycle of the Z80 is a bus fight. -/
theorem test_direct_write_fight :
    step { broken with z80Place := .cycle (.writeHl 0x55 0), calls := [.primitive (.pulse 1)] } = .fault .busFight ∧
    step { held with z80Place := .cycle (.writeHl 0x55 1), calls := [.primitive (.setDataBusOutput 0)] } =
      .fault .busFight := ⟨rfl, rfl⟩

/-- R110, R392: the last pulse of a reset made by direct calls leaves the Z80 at a fetch at address 0. -/
theorem test_direct_reset :
    seen (fun t => t.z80Place) (step { session with
      rst := .asserted, z80Place := .resetting 6, calls := [.primitive .releaseReset] }) = some (.starting 0) ∧
    seen (fun t => (t.z80PC, t.z80Place, t.sync, t.memory)) (step { lost with
      z80PC := 0x1234, z80Place := .starting 1, calls := [.primitive (.pulse 1)] }) =
      some (0x0000, .cycle (.fetch 0), .lost, []) := ⟨rfl, rfl⟩
/-! ## Witnesses: every statement's hypotheses are met -/

theorem ready_session : Ready session := ⟨⟨rfl, rfl, rfl⟩, rfl⟩

theorem rest_lost : AtRest lost := ⟨rfl, rfl, rfl⟩

theorem rest_reset : AtRest State.reset := ⟨rfl, rfl, rfl⟩

theorem desynced_lost : Desynced lost := ⟨rfl, by decide, by decide⟩

theorem desynced_reset : Desynced State.reset := ⟨rfl, by decide, by decide⟩

theorem desynced_broken : Desynced broken := ⟨rfl, by decide, by decide⟩

theorem witness_NopRule : Ready session :=
  ready_session

theorem witness_JumpAndAccumulatorForms : Ready session ∧ ((4 : Fin 8) ≤ 4 ∧ (4 : Fin 8) ≤ 7) :=
  ⟨ready_session, by decide⟩

theorem witness_PairAndByteForms : Ready session ∧ ((0 : Fin 8) ≠ 6 ∧ (5 : Fin 8) ≠ 6 ∧ (7 : Fin 8) ≠ 6) :=
  ⟨ready_session, by decide⟩

theorem witness_IndirectLoadForms : Ready session :=
  ready_session

theorem witness_LoadAndHaltForms : Ready session ∧ ((0 : Fin 8) ≠ 6 ∧ (5 : Fin 8) ≠ 6 ∧ (7 : Fin 8) ≠ 6) :=
  ⟨ready_session, by decide⟩

theorem witness_AccumulatorOperationForms : Ready session ∧ ((0 : Fin 8) ≠ 6 ∧ (5 : Fin 8) ≠ 6 ∧ (7 : Fin 8) ≠ 6) :=
  ⟨ready_session, by decide⟩

theorem witness_ControlFlowForms : Ready session :=
  ready_session

theorem witness_StackExchangeAndPortForms : Ready session :=
  ready_session

theorem witness_ImmediateOperationForms : Ready session :=
  ready_session

theorem witness_CbForms : Ready session :=
  ready_session

theorem witness_EdPortAndPairForms : Ready session ∧ ((0 : Fin 8) ≠ 6 ∧ (5 : Fin 8) ≠ 6 ∧ (7 : Fin 8) ≠ 6) :=
  ⟨ready_session, by decide⟩

theorem witness_EdSystemForms : Ready session ∧ ((0 : Fin 8) ≠ 1 ∧ (2 : Fin 8) ≠ 1) :=
  ⟨ready_session, by decide⟩

theorem witness_EdBlockForms : Ready session :=
  ready_session

theorem witness_EdRepeatBlockForms : Ready session :=
  ready_session

theorem witness_EdFallbackForms : Ready session ∧ ((6 : Fin 8) ≤ 6 ∧ (6 : Fin 8) ≤ 7) ∧ (((3 : Fin 8) < 4 ∨ (4 : Fin 8) ≤ 0) ∧ ((7 : Fin 8) < 4 ∨ (4 : Fin 8) ≤ 4)) :=
  ⟨ready_session, by decide⟩

theorem witness_LonePrefixForms : Ready session :=
  ready_session

theorem witness_IndexPairForms : Ready session :=
  ready_session

theorem witness_IndexMemoryForms : Ready session ∧ ((0 : Fin 8) ≠ 6 ∧ (5 : Fin 8) ≠ 6 ∧ (7 : Fin 8) ≠ 6) :=
  ⟨ready_session, by decide⟩

theorem witness_PassThroughFormsX0 : Ready session ∧ ((0 : Fin 8) ≠ 6 ∧ (5 : Fin 8) ≠ 6 ∧ (7 : Fin 8) ≠ 6) ∧ ((1 : Fin 4) ≠ 2 ∧ (3 : Fin 4) ≠ 2) ∧ ((4 : Fin 8) ≤ 4 ∧ (4 : Fin 8) ≤ 7) :=
  ⟨ready_session, by decide⟩

theorem witness_PassThroughFormsX1X2 : Ready session ∧ ((0 : Fin 8) ≠ 6 ∧ (5 : Fin 8) ≠ 6 ∧ (7 : Fin 8) ≠ 6) :=
  ⟨ready_session, by decide⟩

theorem witness_PassThroughFormsX3 : Ready session ∧ ((1 : Fin 4) ≠ 2 ∧ (3 : Fin 4) ≠ 2) :=
  ⟨ready_session, by decide⟩

theorem witness_IndexCbForms : Ready session :=
  ready_session

theorem witness_PowerOnInvariant : Memory.wf [(0, 0x01), (0xFFFF, 0xFF)] = true := by decide

theorem witness_TableEntries : hex2 0x00 = hex2 0x00 ∧ hex2 0xFF = hex2 0xFF := ⟨rfl, rfl⟩

theorem witness_DecodeOfEncode : wellFormed (.jrCc 4 0xFF) = true ∧ wellFormed (.incR 7) = true ∧
    wellFormed (.loneDdFd .ix .iy) = true ∧ wellFormed (.xcbSet .iy 0x80 7 7) = true := by decide

theorem witness_EncodeOfDecode : decodeBytes [0xFD, 0xCB, 0x80, 0xFF] = .ok (.xcbSet .iy 0x80 7 7, []) ∧
    decodeBytes [0xDD, 0xFD] = .ok (.loneDdFd .ix .iy, [0xFD]) := ⟨rfl, rfl⟩

theorem witness_DecodeIsTotal : 4 ≤ [(0xED : Byte), 0xFF, 0x00, 0x00].length ∧ Ready session :=
  ⟨by decide, ready_session⟩

theorem witness_DecodeReadsOnlyItsBytes :
    ((2 ≤ readsOf 0x00 0xFF → (0x55 : Byte) = 0xFF) ∧ (3 ≤ readsOf 0x00 0xFF → (0x55 : Byte) = 0xFF) ∧
      (4 ≤ readsOf 0x00 0xFF → (0x55 : Byte) = 0xFF)) ∧ readsOf 0xED 0x43 = 4 := by decide

theorem witness_StepRunsDecodedInstruction :
    (holding [0xED, 0x43, 0xCD, 0xAB] 0xFFFE).sync = .boundary ∧
    decodeBytes [targetByte (holding [0xED, 0x43, 0xCD, 0xAB] 0xFFFE) 0, targetByte (holding [0xED, 0x43, 0xCD, 0xAB] 0xFFFE) 1,
      targetByte (holding [0xED, 0x43, 0xCD, 0xAB] 0xFFFE) 2, targetByte (holding [0xED, 0x43, 0xCD, 0xAB] 0xFFFE) 3] =
      .ok (.ldNnRp 0 0xABCD, []) ∧ (holding [0xED, 0x43, 0xCD, 0xAB] 0xFFFE).calls = [] := ⟨rfl, rfl, rfl⟩

theorem witness_StepRunsDecodedInstruction_call :
    ({ holding [0x76] 0xFFFF with pc := 0, calls := [.disassembleOne 0xFFFF] } : State).sync = .boundary ∧
    ({ holding [0x76] 0xFFFF with pc := 0, calls := [.disassembleOne 0xFFFF] } : State).calls =
      .disassembleOne 0xFFFF :: [] ∧
    decodeBytes [(holding [0x76] 0xFFFF).memory.read (0xFFFF : Word).toNat,
      (holding [0x76] 0xFFFF).memory.read ((0xFFFF : Word) + 1).toNat,
      (holding [0x76] 0xFFFF).memory.read ((0xFFFF : Word) + 2).toNat,
      (holding [0x76] 0xFFFF).memory.read ((0xFFFF : Word) + 3).toNat] = .ok (.halt, [0, 0, 0]) := ⟨rfl, rfl, rfl⟩

theorem witness_StepRunsDecodedInstruction_calls :
    ({ lost with calls := [.resetCpu] } : State).calls = [.resetCpu] ∧
    ({ session with calls := [.loadIndexRegister 0xFFFF] } : State).calls = [.loadIndexRegister 0xFFFF] ∧
    ({ loadedAt 0 with calls := [.writeByte 0 1] } : State).calls = [.writeByte 0 1] ∧
    ({ session with calls := [.readByte 5, .resetCpu] } : State).calls = [.readByte 5, .resetCpu] ∧
    ({ session with calls := [.readWord 0xFFFF] } : State).calls = [.readWord 0xFFFF] ∧
    ({ session with calls := [.primitive .assertReset] } : State).calls = [.primitive .assertReset] ∧
    (∃ t, step { session with calls := [.readByte 5, .resetCpu] } = .next t) ∧
    session.calls = [] ∧ ∃ t, step session = .next t :=
  ⟨rfl, rfl, rfl, rfl, rfl, rfl, ⟨_, rfl⟩, rfl, ⟨_, rfl⟩⟩

theorem witness_ReadsReturnTheDecodedBytes : Ready session ∧ Desynced lost ∧ Desynced broken :=
  ⟨ready_session, desynced_lost, desynced_broken⟩

theorem witness_OutputContract : Ready session := ready_session

theorem witness_OutputContract_ed : Ready (holding [0xED, 0x3F] 0xFFFF) ∧
    (fields ((holding [0xED, 0x3F] 0xFFFF).memory.read ((0xFFFF : Word) + 1).toNat)).x = 0 ∧
    (fields ((holding [0xED, 0xC0] 0xFFFF).memory.read ((0xFFFF : Word) + 1).toNat)).x = 3 :=
  ⟨⟨⟨rfl, rfl, rfl⟩, rfl⟩, rfl, rfl⟩

theorem witness_PrefixClassification : Ready (holding [0xFD, 0xCB] 0xFFFF) := ⟨⟨rfl, rfl, rfl⟩, rfl⟩

theorem witness_DecodeSideEffects : Ready (holding [0xDD, 0xED] 0xFFFF) ∧
    (holding [0xDD, 0xED] 0xFFFF).memory.read (0xFFFF : Word).toNat ∈ [0xDD, 0xFD] ∧
    (holding [0xDD, 0xED] 0xFFFF).memory.read ((0xFFFF : Word) + 1).toNat ∈ [0xDD, 0xED, 0xFD] :=
  ⟨⟨⟨rfl, rfl, rfl⟩, rfl⟩, by decide, by decide⟩

theorem witness_DecodeIsDeterministic : Ready session ∧ Ready (loadedAt 0x8000) ∧
    ∀ k, k < 4 → session.memory.read ((0xFFFF : Word) + BitVec.ofNat 16 k).toNat =
      (loadedAt 0x8000).memory.read ((0xFFFF : Word) + BitVec.ofNat 16 k).toNat :=
  ⟨ready_session, ⟨⟨rfl, rfl, rfl⟩, rfl⟩, fun _ _ => rfl⟩

theorem witness_ListingComposes : Ready session := ready_session

theorem witness_WhenADecodeStops : Ready session ∧ Desynced broken ∧
    (fighting.dbusDir = .out ∧ fighting.ramOvr = .released) ∧
    (¬(driving.dbusDir = .out ∧ driving.ramOvr = .released) ∧ ({ driving with clk := .high } : State).clk = .high) ∧
    (driving.clk = .low ∧ driving.ramOvr = .asserted ∧ driving.sync = .boundary) ∧
    (held.clk = .low ∧ held.ramOvr = .asserted ∧ held.sync = .boundary) :=
  ⟨ready_session, desynced_broken, by decide, by decide, by decide, by decide⟩

theorem witness_DecodeFrame : (∃ t, exec .nop session = .next t) ∧ session.sync = .boundary ∧
    (∃ t, exec .nop broken = .next t) ∧ broken.sync ≠ .boundary := ⟨⟨_, rfl⟩, rfl, ⟨_, rfl⟩, by decide⟩

theorem witness_PlacedWordRuns : decodeTableWord 8 0x00 = some .nop ∧ decodeTableWord 16 0xDDDD = some (.loneDdFd .ix .ix) ∧
    decodeTableWord 32 0xDDCB0046 = some (.xcbBit .ix 0 0 6) ∧
    ∀ k, k < 4 → 5 ≠ ((0xFFFE : Word) + BitVec.ofNat 16 k).toNat := by decide

theorem witness_ResetCpuEffect : AtRest State.reset ∧ AtRest lost := ⟨rest_reset, rest_lost⟩

theorem witness_ResetCpuLeavesAlone : (∃ t, resetCpu lost = .next t) ∧ driving.ramOvr = .asserted ∧
    fighting.ramOvr = .released ∧ fighting.dbusDir = .out := ⟨⟨_, rfl⟩, rfl, rfl, rfl⟩

theorem witness_LoadIndexRegisterEffect : Ready session := ready_session

theorem witness_ReadByteEffect : Ready session := ready_session

theorem witness_WriteByteEffect : (Ready session ∧ session.hlLoaded = false) ∧
    (Ready (loadedAt 0xFFFF) ∧ (loadedAt 0xFFFF).hlLoaded = true ∧ (loadedAt 0xFFFF).z80HL ≠ 0) ∧
    (loadedAt 0xFFFF).z80HL = 0xFFFF :=
  ⟨⟨ready_session, rfl⟩, ⟨⟨⟨rfl, rfl, rfl⟩, rfl⟩, rfl, by decide⟩, rfl⟩

theorem witness_ReadWordOrder : Ready session := ready_session

theorem witness_WriteIsSeen : Ready (loadedAt 0xFFFF) ∧ (loadedAt 0xFFFF).hlLoaded = true ∧
    (loadedAt 0xFFFF).z80HL = 0xFFFF ∧ (0x0000 : Word) ≠ 0xFFFF := ⟨⟨⟨rfl, rfl, rfl⟩, rfl⟩, rfl, rfl, by decide⟩

theorem witness_ImplicitCursor : Ready (loadedAt 0xFFFF) ∧ (0xFFFF : Word) ≠ 0x0000 ∧
    (∃ t, writeByte 0xFFFF 0x11 (loadedAt 0xFFFF) = .next t) := ⟨⟨⟨rfl, rfl, rfl⟩, rfl⟩, by decide, ⟨_, rfl⟩⟩

theorem witness_SessionOrder : AtRest State.reset ∧ AtRest lost ∧ Ready session :=
  ⟨rest_reset, rest_lost, ready_session⟩

theorem witness_DesyncedOperationsComplete : Desynced State.reset ∧ Desynced lost ∧ Desynced broken :=
  ⟨desynced_reset, desynced_lost, desynced_broken⟩

theorem witness_PrimitiveEffects :
    ((session.dbusDir = .out → session.ramOvr = .asserted) ∧ session.ramOvr = .released ∧ session.sync = .boundary) ∧
    ((held.dbusDir = .out → held.ramOvr = .asserted) ∧ held.ramOvr = .asserted ∧ held.dbusDir = .inPullup ∧
      held.sync = .boundary) ∧
    ((broken.dbusDir = .out → broken.ramOvr = .asserted) ∧ broken.sync ≠ .boundary ∧ broken.dbusDir = .out) ∧
    ((lost.dbusDir = .out → lost.ramOvr = .asserted) ∧ lost.sync ≠ .boundary ∧ lost.dbusDir = .inPullup) := by decide

theorem witness_PulseSampleAndReset :
    ((session.dbusDir = .out → session.ramOvr = .asserted) ∧ session.clk = .low ∧ session.dbusDir = .inPullup) ∧
    ((driving.dbusDir = .out → driving.ramOvr = .asserted) ∧ driving.dbusDir = .out) ∧
    (({ session with clk := .high } : State).clk = .high ∧
      (({ session with clk := .high } : State).dbusDir = .out →
        ({ session with clk := .high } : State).ramOvr = .asserted)) := by decide

theorem witness_BusOwnership : ((driving.dbusDir = .out → driving.ramOvr = .asserted) ∧
    (∃ t, Machine.runSchedule 0xFF [.setDataBusInput, .releaseRamOverride] driving = .next t)) ∧
    (fighting.dbusDir = .out ∧ fighting.ramOvr = .released) ∧ AtRest session :=
  ⟨⟨by decide, ⟨_, rfl⟩⟩, by decide, ready_session.1⟩

theorem witness_DirectPrimitiveDesyncs :
    (∃ t, step { session with calls := [.primitive (.pulse 1)] } = .next t) ∧ session.rst = .released ∧
    (session.z80Place = .cycle (.fetch 0) ∧ 0 + 2 ≤ 2 ∧
      ∃ t, step { session with calls := [.primitive (.pulse 2)] } = .next t) ∧
    (∃ t, step { session with rst := .asserted, calls := [.primitive .assertRamOverride] } = .next t) ∧
    (∃ t, step { session with rst := .asserted, calls := [.primitive .sampleDataBus] } = .next t) ∧
    (∃ t, step { held with z80Place := .cycle (.fetch 2), calls := [.primitive .sampleDataBus] } = .next t) ∧
    (∃ t, andThen (step { session with calls := [.primitive (.pulse 1), .primitive (.pulse 1)] }) step = .next t) ∧
    (session.clk = .low ∧ (session.dbusDir = .out → session.ramOvr = .asserted) ∧ session.dbusDir = .inPullup) :=
  ⟨⟨_, rfl⟩, rfl, ⟨rfl, by decide, ⟨_, rfl⟩⟩, ⟨_, rfl⟩, ⟨_, rfl⟩, ⟨_, rfl⟩, ⟨_, rfl⟩, by decide⟩

theorem witness_DirectPrimitiveDesyncs_write :
    (∃ t, step { session with z80Place := .cycle (.writeHl 0x55 2), calls := [.primitive (.pulse 1)] } = .next t) ∧
    (broken.clk = .low ∧ (broken.dbusDir = .out → broken.ramOvr = .asserted) ∧ broken.rst = .released ∧
      broken.dbusDir = .out ∧ ({ broken with z80Place := .cycle (.writeHl 0x55 0) } : State).z80Place =
        .cycle (.writeHl 0x55 0)) ∧
    ({ broken with z80Place := .unknown } : State).z80Place = .unknown := ⟨⟨_, rfl⟩, by decide, rfl⟩

theorem witness_PulseTotals : AtRest State.reset ∧ Ready (loadedAt 0xFFFF) ∧ (loadedAt 0xFFFF).hlLoaded = true ∧
    (loadedAt 0xFFFF).z80HL = 0xFFFF := ⟨rest_reset, ⟨⟨rfl, rfl, rfl⟩, rfl⟩, rfl, rfl⟩

theorem witness_ForcedInstructionsKeepFlags : Ready { loadedAt 0xFFFF with z80R := 0xFF } ∧
    (loadedAt 0xFFFF).hlLoaded = true ∧ (loadedAt 0xFFFF).z80HL = 0xFFFF := ⟨⟨⟨rfl, rfl, rfl⟩, rfl⟩, rfl, rfl⟩

theorem witness_SchedulesRefineTStates : Ready (loadedAt 0xFFFF) := ⟨⟨rfl, rfl, rfl⟩, rfl⟩

theorem witness_MemoryIsCanonical : Memory.wf [(0xFFFF, 0x01)] = true ∧ 0xFFFF < 0x10000 ∧
    ∀ a, Memory.read [(0xFFFF, 0x01)] a = Memory.read (Memory.write [] 0xFFFF 0x01) a :=
  ⟨by decide, by decide, fun _ => rfl⟩

theorem inv_session : StateInv session where
  memory_wf := rfl
  clk_low := rfl
  bus_owned := by decide
  boundary_rest := fun _ => ⟨rfl, rfl, rfl⟩
  pulses_counted := rfl
  override_paired := fun _ => rfl
  returned_ok := fun _ h => nomatch h
  boundary_place := fun _ => rfl
  place_ok := ⟨rfl, by decide, Nat.zero_le 2⟩
  write_undriven := fun _ _ h => nomatch h

theorem witness_StepKeepsInvariant : StateInv session ∧ (∃ t, step session = .next t) ∧
    (∃ t, step { session with calls := [.primitive .assertRamOverride] } = .next t) :=
  ⟨inv_session, ⟨_, rfl⟩, ⟨_, rfl⟩⟩

end Sys2Proof.Tests
end

section
/-! PROOFS. A byte written is what every later read and decode fetches (20_memory.md R66): target memory has no copy of a
byte between a write and the next read, because all three go to the one memory of the state. -/

namespace Sys2Proof.Machine

/-- A read after a write, at addresses: the byte written at its own address, the byte from before at any other. -/
theorem Memory.read_write_word (m : Memory) (a b : Word) (v : Byte) :
    (m.write a.toNat v).read b.toNat = if b = a then v else m.read b.toNat := by
  split
  · next h => rw [h, Memory.read_write_same]
  · next h => exact m.read_write_other _ _ v (mt BitVec.eq_of_toNat_eq h)

/-! ## The state after a write -/

/-- The state after a `writeByte` at the cursor in an open session (R113, R118, R119). -/
def afterWrite (v : Byte) (s : State) : State :=
  { s with
    dbusOut := 0x23
    pinTrace := s.pinTrace ++ writeEvents v
    pulseTotal := s.pulseTotal + 16
    memory := s.memory.write s.z80HL.toNat v
    z80HL := s.z80HL + 1
    z80PC := s.z80PC + 3
    z80R := advanceR 2 s.z80R }

theorem writeByte_eq_afterWrite {s : State} (h : Ready s) (hl : s.hlLoaded = true) (v : Byte) :
    writeByte s.z80HL v s = .next (afterWrite v s) := writeByte_ready h hl v

theorem ready_afterWrite {s : State} (h : Ready s) (v : Byte) : Ready (afterWrite v s) := h

theorem read_afterWrite (v : Byte) (s : State) (b : Word) :
    (afterWrite v s).memory.read b.toNat = if b = s.z80HL then v else s.memory.read b.toNat :=
  Memory.read_write_word s.memory s.z80HL b v

/-! ## Reads and decodes in an open session -/

/-- In an open session what a decode at `A` fetches is target memory. -/
theorem fetchedByte_ready {s : State} (h : Ready s) (A : Word) (k : Nat) :
    fetchedByte { s with pc := A } k = s.memory.read (A + BitVec.ofNat 16 k).toNat := if_pos h.2

/-- A run of reads from `A` returns the bytes a decode at `A` fetches. -/
theorem readBytes_eq_fetchedByte {s : State} (h : Ready s) (n : Nat) (A : Word) :
    ∃ x, readBytes n A s = .next ((List.range n).map (fetchedByte { s with pc := A }), x) := by
  cases n with
  | zero => exact ⟨s, rfl⟩
  | succ n =>
    have hf : fetchedByte { s with pc := A } = fun k => s.memory.read (A + BitVec.ofNat 16 k).toNat :=
      funext (fetchedByte_ready h A)
    exact ⟨_, hf ▸ readBytes_ready_from n h A⟩

/-- What every instruction does in an open session: it completes as a decode. -/
theorem exec_ready {s : State} (h : Ready s) (i : Instr) :
    ∃ pfx opcode text len reads, exec i s = .next (decoded pfx opcode text len (reads + 1) s) := by
  obtain ⟨pfx, opcode, text, len, reads, hi, -⟩ := exec_isDecode i
  exact ⟨pfx, opcode, text, len, reads, (hi s).trans (present_ready h pfx opcode text len reads)⟩

/-- A decode in an open session completes and stores nothing. -/
theorem disassembleOne_keeps_memory {s : State} (h : Ready s) (A : Word) :
    ∃ u, disassembleOne A s = .next u ∧ u.memory = s.memory := by
  have hA : Ready { s with pc := A } := h
  obtain ⟨_, _, _, _, _, hu⟩ := exec_ready hA (fetchInstr { s with pc := A })
  exact ⟨_, hu, rfl⟩

/-! ## The statement -/

/-- Settles O48: the write leaves `afterWrite`, and every read and every decode of it goes to its memory. -/
theorem writeIsSeen : Obligations.WriteIsSeen := by
  unfold Obligations.WriteIsSeen
  rintro s _ v h hl rfl
  have ht : Ready (afterWrite v s) := ready_afterWrite h v
  have hread (b : Word) : ∃ u, readByte b (afterWrite v s) =
      .next (if b = s.z80HL then v else s.memory.read b.toNat, u) ∧ u.memory = (afterWrite v s).memory :=
    ⟨afterRead b (afterWrite v s), read_afterWrite v s b ▸ readByte_ready ht b, rfl⟩
  refine ⟨afterWrite v s, writeByte_eq_afterWrite h hl v, ht, ?same, fun b hb => ?other, fun A k => ?fetched,
    fun A => ?decode⟩
  case same => simpa using hread s.z80HL
  case other => simpa only [if_neg hb] using hread b
  case fetched => rw [fetchedByte_ready ht, fetchedByte_ready h, read_afterWrite]
  case decode =>
    obtain ⟨u, hu, hm⟩ := disassembleOne_keeps_memory ht A
    exact ⟨u, hu, hm, fun n => readBytes_eq_fetchedByte ht n A⟩

end Sys2Proof.Machine
end

section
/-! PROOFS. Decode is total (30_encoding.md R92): four bytes always decode, the number of bytes a decode consumes is the
length of the encoding of what it read, and that length, in 1..4, is what the instruction reports beside its text. -/

namespace Sys2Proof

/-! ## The length function is bounded -/

theorem unprefixedLength_bounds (b : Byte) : 1 ≤ unprefixedLength b ∧ unprefixedLength b ≤ 3 := by
  unfold unprefixedLength
  split_ifs <;> decide

theorem lengthOf_bounds (b0 b1 : Byte) : 1 ≤ lengthOf b0 b1 ∧ lengthOf b0 b1 ≤ 4 := by
  have h0 := unprefixedLength_bounds b0
  have h1 := unprefixedLength_bounds b1
  unfold lengthOf
  split
  case h_1 => decide
  case h_2 => split_ifs <;> decide
  case h_3 => split_ifs <;> omega
  case h_4 => omega

theorem readsOf_le_four (b0 b1 : Byte) : readsOf b0 b1 ≤ 4 := by
  unfold readsOf
  split_ifs
  · decide
  · exact (lengthOf_bounds b0 b1).2

/-! ## The first byte of each class -/

theorem eq_of_classify_cb {b : Byte} : classify b = .cb → b = 0xCB := by
  revert b; decide

theorem eq_of_classify_ed {b : Byte} : classify b = .ed → b = 0xED := by
  revert b; decide

theorem eq_of_classify_ddfd {b : Byte} {ir : IndexReg} : classify b = .ddfd ir → b = prefixByte ir := by
  revert b; cases ir <;> decide

/-! ## The unprefixed map: the encoding of what is read has the length of the opcode byte -/

theorem exists_eq_op (b : Byte) : ∃ x y z, b = op x y z := ⟨_, _, _, (op_fields b).symm⟩

theorem length_encode_decodeX0 (y z : Fin 8) (b1 b2 : Byte) :
    (encode (decodeX0 ⟨0, y, z⟩ b1 b2)).length = unprefixedLength (op 0 y z) := by
  fin_cases z <;> fin_cases y <;> rfl

theorem length_encode_decodeX1 (y z : Fin 8) : (encode (decodeX1 ⟨1, y, z⟩)).length = unprefixedLength (op 1 y z) := by
  revert y z; decide

theorem length_encode_decodeX2 (y z : Fin 8) : (encode (decodeX2 ⟨2, y, z⟩)).length = unprefixedLength (op 2 y z) := by
  revert y z; decide

/-- Of the cells of `X = 3`, `CB`, `DD`, `ED` and `FD` are not unprefixed forms. -/
theorem length_encode_decodeX3 {y z : Fin 8} (h : classify (op 3 y z) = .unprefixed) (c e : Instr)
    (i : IndexReg → Instr) (b1 b2 : Byte) :
    (encode (decodeX3 c e i ⟨3, y, z⟩ b1 b2)).length = unprefixedLength (op 3 y z) := by
  fin_cases z <;> fin_cases y <;> first | rfl | exact nomatch h

theorem length_encode_decodeUnprefixed {b : Byte} (h : classify b = .unprefixed) (c e : Instr)
    (i : IndexReg → Instr) (b1 b2 : Byte) :
    (encode (decodeUnprefixed c e i b b1 b2)).length = unprefixedLength b := by
  obtain ⟨x, y, z, rfl⟩ := exists_eq_op b
  rw [decodeUnprefixed, fields_op]
  match x with
  | 0 => exact length_encode_decodeX0 y z b1 b2
  | 1 => exact length_encode_decodeX1 y z
  | 2 => exact length_encode_decodeX2 y z
  | 3 => exact length_encode_decodeX3 h c e i b1 b2

/-! ## The CB, ED, DD and FD maps -/

theorem length_encode_decodeCb (b : Byte) : (encode (decodeCb b)).length = 2 := by
  revert b; decide

theorem lengthOf_ed (b : Byte) : lengthOf 0xED b = if (fields b).x == 1 && (fields b).z == 3 then 4 else 2 := rfl

theorem length_encode_decodeEd (b b2 b3 : Byte) : (encode (decodeEd b b2 b3)).length = lengthOf 0xED b := by
  obtain ⟨x, y, z, rfl⟩ := exists_eq_op b
  rw [decodeEd, lengthOf_ed, fields_op]
  match x with
  | 0 => rfl
  | 1 => fin_cases z <;> fin_cases y <;> rfl
  | 2 => fin_cases z <;> fin_cases y <;> rfl
  | 3 => rfl

theorem lengthOf_prefixByte (ir : IndexReg) (b : Byte) : lengthOf (prefixByte ir) b = lengthOf 0xDD b := by
  cases ir <;> rfl

theorem length_encode_indexForm_decodeXcb (ir : IndexReg) (d b : Byte) :
    (encode (indexForm ir d b (decodeXcb ir d b))).length = 4 := by
  unfold decodeXcb
  split
  · split <;> rfl
  all_goals rfl

theorem length_encode_indexForm_decodeX0 (ir : IndexReg) (y z : Fin 8) (b2 b3 : Byte) :
    (encode (indexForm ir b2 b3 (decodeX0 ⟨0, y, z⟩ b2 b3))).length = lengthOf 0xDD (op 0 y z) := by
  fin_cases z <;> fin_cases y <;> rfl

theorem length_encode_indexForm_decodeX1 (ir : IndexReg) (y z : Fin 8) (b2 b3 : Byte) :
    (encode (indexForm ir b2 b3 (decodeX1 ⟨1, y, z⟩))).length = lengthOf 0xDD (op 1 y z) := by
  fin_cases z <;> fin_cases y <;> rfl

theorem length_encode_indexForm_decodeX2 (ir : IndexReg) (y z : Fin 8) (b2 b3 : Byte) :
    (encode (indexForm ir b2 b3 (decodeX2 ⟨2, y, z⟩))).length = lengthOf 0xDD (op 2 y z) := by
  fin_cases z <;> fin_cases y <;> rfl

/-- Of the cells of `X = 3`, the second byte `CB` leads to the `DD CB` map; `DD`, `ED` and `FD` leave the first byte alone. -/
theorem length_encode_indexForm_decodeX3 (ir : IndexReg) (y z : Fin 8) (b2 b3 : Byte) :
    (encode (indexForm ir b2 b3
      (decodeX3 (decodeXcb ir b2 b3) (.loneEd ir) (.loneDdFd ir) ⟨3, y, z⟩ b2 b3))).length =
      lengthOf 0xDD (op 3 y z) := by
  fin_cases z <;> fin_cases y <;> first | rfl | exact length_encode_indexForm_decodeXcb ir b2 b3

theorem length_encode_decodeDdFd (ir : IndexReg) (b1 b2 b3 : Byte) :
    (encode (decodeDdFd ir b1 b2 b3)).length = lengthOf (prefixByte ir) b1 := by
  obtain ⟨x, y, z, rfl⟩ := exists_eq_op b1
  rw [decodeDdFd, decodeUnprefixed, fields_op, lengthOf_prefixByte]
  match x with
  | 0 => exact length_encode_indexForm_decodeX0 ir y z b2 b3
  | 1 => exact length_encode_indexForm_decodeX1 ir y z b2 b3
  | 2 => exact length_encode_indexForm_decodeX2 ir y z b2 b3
  | 3 => exact length_encode_indexForm_decodeX3 ir y z b2 b3

/-! ## The whole decoder -/

/-- What the decoder reads has an encoding of the length that the first two bytes announce. -/
theorem length_encode_decode (b0 b1 b2 b3 : Byte) : (encode (decode b0 b1 b2 b3)).length = lengthOf b0 b1 := by
  cases h : classify b0 with
  | unprefixed =>
    have hl : lengthOf b0 b1 = unprefixedLength b0 := by rw [lengthOf, h]
    exact (length_encode_decodeUnprefixed h _ _ _ b1 b2).trans hl.symm
  | cb =>
    obtain rfl := eq_of_classify_cb h
    exact length_encode_decodeCb b1
  | ed =>
    obtain rfl := eq_of_classify_ed h
    exact length_encode_decodeEd b1 b2 b3
  | ddfd ir =>
    obtain rfl := eq_of_classify_ddfd h
    rw [← length_encode_decodeDdFd ir b1 b2 b3]
    cases ir <;> rfl

theorem exists_cons_four {bytes : List Byte} (h : 4 ≤ bytes.length) :
    ∃ b0 b1 b2 b3 tail, bytes = b0 :: b1 :: b2 :: b3 :: tail := by
  match bytes, h with
  | b0 :: b1 :: b2 :: b3 :: tail, _ => exact ⟨b0, b1, b2, b3, tail, rfl⟩

namespace Machine

/-- What every instruction reports: the length of its encoding, and a text that is not empty. -/
theorem exec_presents_encodedLength (i : Instr) :
    ∃ pfx opcode text reads, (∀ s, exec i s = present pfx opcode text (encode i).length (reads + 1) s) ∧ text ≠ [] := by
  cases i <;> exact ⟨_, _, _, _, fun _ => rfl, List.isEmpty_eq_false_iff.mp rfl⟩

/-! ## The statement -/

/-- Settles O30: four bytes decode, with the length their first two announce, and what is read reports that length. -/
theorem decodeIsTotal : Obligations.DecodeIsTotal := by
  unfold Obligations.DecodeIsTotal
  intro bytes h
  obtain ⟨b0, b1, b2, b3, tail, rfl⟩ := exists_cons_four h
  obtain ⟨hmin, hmax⟩ := lengthOf_bounds b0 b1
  refine ⟨decode b0 b1 b2 b3, lengthOf b0 b1, decodeBytes_four tail (readsOf_le_four b0 b1), hmin, hmax, fun s hs => ?_⟩
  obtain ⟨pfx, opcode, text, reads, hexec, htext⟩ := exec_presents_encodedLength (decode b0 b1 b2 b3)
  have hnext := (hexec s).trans (present_ready hs pfx opcode text _ reads)
  exact ⟨_, _, hnext, rfl, length_encode_decode b0 b1 b2 b3, htext⟩

end Machine
end Sys2Proof
end

section
/-! PROOFS. The bitfield tuple of a byte (42_tables_and_bitfields.md R130): each field is the bits it is named for, `P` and
`Q` being bits of `Y` (R131), and the byte is the sum of its fields at their places. -/

namespace Sys2Proof

/-! ## A field is a run of bits -/

/-- The bits of `b` from `start` on, as the quotient and remainder that `fields` computes with. -/
theorem toNat_bits (b : Byte) (start len : Nat) :
    (b.extractLsb' start len).toNat = b.toNat / 2 ^ start % 2 ^ len := by
  rw [BitVec.extractLsb'_toNat, Nat.shiftRight_eq_div_pow]

theorem fields_x_val (b : Byte) : (fields b).x.val = (b.extractLsb' 6 2).toNat := (toNat_bits b 6 2).symm

theorem fields_y_val (b : Byte) : (fields b).y.val = (b.extractLsb' 3 3).toNat := (toNat_bits b 3 3).symm

theorem fields_z_val (b : Byte) : (fields b).z.val = (b.extractLsb' 0 3).toNat := by
  rw [toNat_bits, pow_zero, Nat.div_one]
  rfl

/-- `P = Y >> 1` is bits 5 to 4 of the byte. -/
theorem fields_p_val (b : Byte) : (fields b).p.val = (b.extractLsb' 4 2).toNat := by
  have hp : (fields b).p.val = (fields b).y.val / 2 % 4 := rfl
  rw [hp, fields_y_val, toNat_bits, toNat_bits]
  omega

/-- `Q = Y & 1` is bit 3 of the byte. -/
theorem fields_q_val (b : Byte) : (fields b).q.val = (b.extractLsb' 3 1).toNat := by
  have hq : (fields b).q.val = (fields b).y.val % 2 := rfl
  rw [hq, fields_y_val, toNat_bits, toNat_bits]
  omega

/-! ## A byte is its fields at their places -/

theorem op_toNat (x : Fin 4) (y z : Fin 8) : (op x y z).toNat = x.val * 64 + y.val * 8 + z.val := by
  rw [op, BitVec.toNat_ofNat]
  omega

theorem toNat_eq_fields (b : Byte) :
    b.toNat = (fields b).x.val * 64 + (fields b).y.val * 8 + (fields b).z.val := by
  rw [← op_toNat, op_fields]

/-! ## The statement -/

/-- Settles O25: the lemma of each field, the two of the byte from its fields, and the examples computed. -/
theorem fieldsOfByte : Obligations.FieldsOfByte := by
  unfold Obligations.FieldsOfByte
  refine ⟨fun b => ?tuple, ?examples⟩
  case tuple =>
    exact ⟨fields_x_val b, fields_y_val b, fields_z_val b, fields_p_val b, fields_q_val b, toNat_eq_fields b, op_fields b⟩
  case examples => decide

end Sys2Proof
end

section
/-! PROOFS. The disassembler (49_disassembler.md R360 to R366): what the four bytes at the cursor make a decode in an open
session do, said once, and the statements about `disassembleOne` and the listing that follow from it. -/

namespace Sys2Proof.Machine

/-! ## The decode as the bytes announce it -/

/-- The class after `DD` or `FD`. -/
def isIndexed : PrefixClass → Bool
  | .ddfd _ => true
  | .unprefixed | .cb | .ed => false

/-- How many bytes a form of a class and length reads: its length, but two for a lone `DD` or `FD` (R310, R366). -/
def readCount (pfx : PrefixClass) (len : Nat) : Nat := if len == 1 && isIndexed pfx then 2 else len

/-- The meaning of `i` is one decode, in class `pfx` and with the fields of `opcode`, of the length `i` is encoded in. -/
def PresentedAs (pfx : PrefixClass) (opcode : Byte) (i : Instr) : Prop :=
  ∃ text, ∀ s, exec i s = present pfx opcode text (encode i).length (readCount pfx (encode i).length) s

/-! ### Unprefixed forms -/

theorem presentedAs_decodeX0 (f : Fields) (b1 b2 : Byte) :
    ∃ opcode, PresentedAs .unprefixed opcode (decodeX0 f b1 b2) := by
  unfold decodeX0
  repeat' split
  all_goals exact ⟨_, _, fun _ => rfl⟩

theorem presentedAs_decodeX1 (f : Fields) : ∃ opcode, PresentedAs .unprefixed opcode (decodeX1 f) := by
  unfold decodeX1
  repeat' split
  all_goals exact ⟨_, _, fun _ => rfl⟩

theorem presentedAs_decodeX2 (f : Fields) : ∃ opcode, PresentedAs .unprefixed opcode (decodeX2 f) := by
  unfold decodeX2
  repeat' split
  all_goals exact ⟨_, _, fun _ => rfl⟩

/-- Of the cells of `X = 3`, `CB`, `DD`, `ED` and `FD` are not unprefixed forms. -/
theorem presentedAs_decodeX3 {y z : Fin 8} (h : classify (op 3 y z) = .unprefixed) (c e : Instr)
    (i : IndexReg → Instr) (b1 b2 : Byte) :
    ∃ opcode, PresentedAs .unprefixed opcode (decodeX3 c e i ⟨3, y, z⟩ b1 b2) := by
  fin_cases z <;> fin_cases y <;> first | exact ⟨_, _, fun _ => rfl⟩ | exact nomatch h

theorem presentedAs_decodeUnprefixed {b : Byte} (h : classify b = .unprefixed) (c e : Instr) (i : IndexReg → Instr)
    (b1 b2 : Byte) : ∃ opcode, PresentedAs .unprefixed opcode (decodeUnprefixed c e i b b1 b2) := by
  obtain ⟨x, y, z, rfl⟩ := exists_eq_op b
  rw [decodeUnprefixed, fields_op]
  match x with
  | 0 => exact presentedAs_decodeX0 _ b1 b2
  | 1 => exact presentedAs_decodeX1 _
  | 2 => exact presentedAs_decodeX2 _
  | 3 => exact presentedAs_decodeX3 h c e i b1 b2

/-! ### `CB` and `ED` forms -/

theorem presentedAs_decodeCb (b : Byte) : PresentedAs .cb b (decodeCb b) := by
  obtain ⟨x, y, z, rfl⟩ := exists_eq_op b
  rw [decodeCb, fields_op]
  match x with
  | 0 => fin_cases y <;> exact ⟨_, fun _ => rfl⟩
  | 1 => exact ⟨_, fun _ => rfl⟩
  | 2 => exact ⟨_, fun _ => rfl⟩
  | 3 => exact ⟨_, fun _ => rfl⟩

theorem presentedAs_decodeEd (b b2 b3 : Byte) : PresentedAs .ed b (decodeEd b b2 b3) := by
  obtain ⟨x, y, z, rfl⟩ := exists_eq_op b
  rw [decodeEd, fields_op]
  match x with
  | 0 => exact ⟨_, fun _ => rfl⟩
  | 1 => fin_cases z <;> fin_cases y <;> exact ⟨_, fun _ => rfl⟩
  | 2 => fin_cases z <;> fin_cases y <;> exact ⟨_, fun _ => rfl⟩
  | 3 => exact ⟨_, fun _ => rfl⟩

/-! ### `DD` and `FD` forms -/

theorem presentedAs_indexForm_decodeXcb (ir : IndexReg) (d b : Byte) :
    ∃ opcode, PresentedAs (.ddfd ir) opcode (indexForm ir d b (decodeXcb ir d b)) := by
  unfold decodeXcb
  split
  · split <;> exact ⟨_, _, fun _ => rfl⟩
  all_goals exact ⟨_, _, fun _ => rfl⟩

theorem presentedAs_indexForm_decodeX0 (ir : IndexReg) (y z : Fin 8) (b2 b3 : Byte) :
    ∃ opcode, PresentedAs (.ddfd ir) opcode (indexForm ir b2 b3 (decodeX0 ⟨0, y, z⟩ b2 b3)) := by
  fin_cases z <;> fin_cases y <;> exact ⟨_, _, fun _ => rfl⟩

theorem presentedAs_indexForm_decodeX1 (ir : IndexReg) (f : Fields) (b2 b3 : Byte) :
    ∃ opcode, PresentedAs (.ddfd ir) opcode (indexForm ir b2 b3 (decodeX1 f)) := by
  unfold decodeX1
  repeat' split
  all_goals exact ⟨_, _, fun _ => rfl⟩

theorem presentedAs_indexForm_decodeX2 (ir : IndexReg) (f : Fields) (b2 b3 : Byte) :
    ∃ opcode, PresentedAs (.ddfd ir) opcode (indexForm ir b2 b3 (decodeX2 f)) := by
  unfold decodeX2
  repeat' split
  all_goals exact ⟨_, _, fun _ => rfl⟩

/-- Of the cells of `X = 3`, the second byte `CB` leads to the `DD CB` map; `DD`, `ED` and `FD` leave the first byte alone. -/
theorem presentedAs_indexForm_decodeX3 (ir : IndexReg) (y z : Fin 8) (b2 b3 : Byte) :
    ∃ opcode, PresentedAs (.ddfd ir) opcode
      (indexForm ir b2 b3 (decodeX3 (decodeXcb ir b2 b3) (.loneEd ir) (.loneDdFd ir) ⟨3, y, z⟩ b2 b3)) := by
  fin_cases z <;> fin_cases y <;>
    first | exact ⟨_, _, fun _ => rfl⟩ | exact presentedAs_indexForm_decodeXcb ir b2 b3

theorem presentedAs_decodeDdFd (ir : IndexReg) (b1 b2 b3 : Byte) :
    ∃ opcode, PresentedAs (.ddfd ir) opcode (decodeDdFd ir b1 b2 b3) := by
  obtain ⟨x, y, z, rfl⟩ := exists_eq_op b1
  rw [decodeDdFd, decodeUnprefixed, fields_op]
  match x with
  | 0 => exact presentedAs_indexForm_decodeX0 ir y z b2 b3
  | 1 => exact presentedAs_indexForm_decodeX1 ir _ b2 b3
  | 2 => exact presentedAs_indexForm_decodeX2 ir _ b2 b3
  | 3 => exact presentedAs_indexForm_decodeX3 ir y z b2 b3

/-- The class is that of the first byte (R360), and an `ED` form has the fields of the second byte. -/
theorem presentedAs_decode (b0 b1 b2 b3 : Byte) :
    ∃ opcode, PresentedAs (classify b0) opcode (decode b0 b1 b2 b3) ∧ (classify b0 = .ed → opcode = b1) := by
  cases h : classify b0 with
  | unprefixed =>
    obtain ⟨opcode, hp⟩ := presentedAs_decodeUnprefixed h (decodeCb b1) (decodeEd b1 b2 b3)
      (fun ir => decodeDdFd ir b1 b2 b3) b1 b2
    exact ⟨opcode, hp, nofun⟩
  | cb =>
    obtain rfl := eq_of_classify_cb h
    exact ⟨b1, presentedAs_decodeCb b1, nofun⟩
  | ed =>
    obtain rfl := eq_of_classify_ed h
    exact ⟨b1, presentedAs_decodeEd b1 b2 b3, fun _ => rfl⟩
  | ddfd ir =>
    obtain rfl := eq_of_classify_ddfd h
    obtain ⟨opcode, hp⟩ := presentedAs_decodeDdFd ir b1 b2 b3
    refine ⟨opcode, ?_, nofun⟩
    cases ir <;> exact hp

/-! ## How many bytes are read -/

/-- Only a lone `DD` or `FD` reads a byte it does not consume (R310). -/
theorem readsOf_eq (b0 b1 : Byte) : readsOf b0 b1 =
    if b0 ∈ [0xDD, 0xFD] ∧ b1 ∈ [0xDD, 0xED, 0xFD] then 2 else lengthOf b0 b1 := by
  by_cases h : b0 ∈ [0xDD, 0xFD]
  · have h' := h
    rw [List.mem_pair] at h'
    obtain rfl | rfl := h' <;> revert b1 <;> decide
  · have h' : (b0 == 0xDD || b0 == 0xFD) = false := by simpa using h
    rw [readsOf, h', Bool.and_false, if_neg Bool.false_ne_true, if_neg fun hb => h hb.1]

theorem isIndexed_classify (b : Byte) : isIndexed (classify b) = (b == 0xDD || b == 0xFD) := by
  revert b; decide

theorem readCount_classify (b0 b1 : Byte) : readCount (classify b0) (lengthOf b0 b1) = readsOf b0 b1 := by
  rw [readCount, isIndexed_classify, readsOf]

theorem readsOf_pos (b0 b1 : Byte) : 1 ≤ readsOf b0 b1 := by
  have h := (lengthOf_bounds b0 b1).1
  unfold readsOf
  split <;> omega

/-! ## A decode in an open session -/

/-- In an open session the instruction at the cursor is the one whose bytes stand in target memory. -/
theorem fetchInstr_ready {s : State} (h : Ready s) :
    fetchInstr s = decode (targetByte s 0) (targetByte s 1) (targetByte s 2) (targetByte s 3) := by
  have hf : fetchedByte s = targetByte s := funext (fetchedByte_ready h s.pc)
  rw [fetchInstr, hf]

/-- What every meaning of the bytes `b0 b1 b2 b3` is: one decode, with class, length and reads as its first two bytes
announce them. -/
theorem exec_decode (b0 b1 b2 b3 : Byte) :
    ∃ opcode text, (∀ s, exec (decode b0 b1 b2 b3) s =
      present (classify b0) opcode text (lengthOf b0 b1) (readsOf b0 b1) s) ∧ (classify b0 = .ed → opcode = b1) := by
  obtain ⟨opcode, ⟨text, hexec⟩, hed⟩ := presentedAs_decode b0 b1 b2 b3
  refine ⟨opcode, text, fun s => ?_, hed⟩
  rw [hexec, length_encode_decode, readCount_classify]

/-- `present_ready` for any number of reads but none. -/
theorem present_ready_of_pos {s : State} (h : Ready s) {reads : Nat} (hr : 1 ≤ reads) (pfx : PrefixClass)
    (opcode : Byte) (text : Text) (len : Nat) :
    present pfx opcode text len reads s = .next (decoded pfx opcode text len reads s) := by
  obtain ⟨n, rfl⟩ := Nat.exists_eq_add_of_le' hr
  exact present_ready h pfx opcode text len n

/-- A decode in an open session, from the bytes in target memory alone. -/
theorem decodeAtCursor_ready {s : State} (h : Ready s) : ∃ opcode text,
    decodeAtCursor s = .next (decoded (classify (targetByte s 0)) opcode text
      (lengthOf (targetByte s 0) (targetByte s 1)) (readsOf (targetByte s 0) (targetByte s 1)) s) ∧
    (classify (targetByte s 0) = .ed → opcode = targetByte s 1) := by
  obtain ⟨opcode, text, hexec, hed⟩ := exec_decode (targetByte s 0) (targetByte s 1) (targetByte s 2) (targetByte s 3)
  refine ⟨opcode, text, ?_, hed⟩
  rw [decodeAtCursor, fetchInstr_ready h, hexec, present_ready_of_pos h (readsOf_pos _ _)]

/-- What a decode in an open session returns meets the output contract. -/
theorem ok_of_decodeAtCursor {s t : State} {d : Decoded} (h : Ready s) (ht : decodeAtCursor s = .next t)
    (hd : t.returned = some (.decoded d)) : d.ok := by
  obtain ⟨pfx, opcode, text, len, reads, hexec, -, hok⟩ := fetchInstr_meetsContract s
  have hnext := ht.symm.trans ((hexec s).trans (present_ready h pfx opcode text len reads))
  cases hnext
  cases hd
  exact hok _

theorem decoded_readTrace (pfx : PrefixClass) (opcode : Byte) (text : Text) (len reads : Nat) (s : State) :
    (decoded pfx opcode text len reads s).readTrace =
      s.readTrace ++ s.pc :: (List.range (reads - 1)).map fun k => s.pc + BitVec.ofNat 16 (k + 1) := by
  simp [decoded, afterReads, List.range_succ_eq_map]

theorem decoded_z80PC {reads : Nat} (hr : 1 ≤ reads) (pfx : PrefixClass) (opcode : Byte) (text : Text) (len : Nat)
    (s : State) : (decoded pfx opcode text len reads s).z80PC = s.z80PC + BitVec.ofNat 16 (4 * reads) := by
  rw [decoded, afterReads, Nat.sub_add_cancel hr]

theorem decoded_pulseTotal {reads : Nat} (hr : 1 ≤ reads) (pfx : PrefixClass) (opcode : Byte) (text : Text) (len : Nat)
    (s : State) : (decoded pfx opcode text len reads s).pulseTotal = s.pulseTotal + 17 * reads := by
  rw [decoded, afterReads, Nat.sub_add_cancel hr]

/-- The same four bytes in target memory are the same instruction. -/
theorem fetchInstr_congr {s s' : State} (h : Ready s) (h' : Ready s')
    (hbytes : ∀ k, k < 4 → targetByte s k = targetByte s' k) : fetchInstr s = fetchInstr s' := by
  rw [fetchInstr_ready h, fetchInstr_ready h', hbytes 0 (by decide), hbytes 1 (by decide), hbytes 2 (by decide),
    hbytes 3 (by decide)]

/-! ## The statements about one decode -/

/-- What `disassembleOne` does in an open session, the bytes read as the statements write them. -/
theorem disassembleOne_ready {s : State} (h : Ready s) (A : Word) : ∃ opcode text,
    disassembleOne A s = .next (decoded (classify (s.memory.read A.toNat)) opcode text
      (lengthOf (s.memory.read A.toNat) (s.memory.read (A + 1).toNat))
      (readsOf (s.memory.read A.toNat) (s.memory.read (A + 1).toNat)) { s with pc := A }) ∧
    (classify (s.memory.read A.toNat) = .ed → opcode = s.memory.read (A + 1).toNat) := by
  have hA : Ready { s with pc := A } := h
  have h0 : targetByte { s with pc := A } 0 = s.memory.read A.toNat := by simp [targetByte]
  have hdecode := decodeAtCursor_ready hA
  rw [h0] at hdecode
  exact hdecode

/-- Settles O34: what a decode returns meets `Decoded.ok`, and the tuple of an `ED` form is that of the second byte. -/
theorem outputContract : Obligations.OutputContract := by
  unfold Obligations.OutputContract
  intro s A h
  have hA : Ready { s with pc := A } := h
  obtain ⟨opcode, text, hnext, hed⟩ := disassembleOne_ready h A
  obtain ⟨hne, hmin, hmax, hlower, hcb, hnop, htmin, htmax⟩ := ok_of_decodeAtCursor hA hnext rfl
  refine ⟨_, _, hnext, rfl, rfl, rfl, hne, hmin, hmax, hlower, hcb, fun hpfx hx => ?ed, htmin, htmax⟩
  case ed =>
    obtain rfl := hed hpfx
    exact hnop hpfx hx

/-- Settles O35: the class is `classify` of the byte at `A`, and of the addresses read only the first is `A`. -/
theorem prefixClassification : Obligations.PrefixClassification := by
  unfold Obligations.PrefixClassification
  intro s A h
  obtain ⟨opcode, text, hnext, -⟩ := disassembleOne_ready h A
  have hmax := readsOf_le_four (s.memory.read A.toNat) (s.memory.read (A + 1).toNat)
  exact ⟨_, _, _, hnext, rfl, rfl, Nat.sub_le_sub_right hmax 1, decoded_readTrace ..⟩

/-- Settles O36: the reads are `readsOf`, the length but for a lone `DD` or `FD`, and `afterReads` has their effects. -/
theorem decodeSideEffects : Obligations.DecodeSideEffects := by
  unfold Obligations.DecodeSideEffects
  intro s A h
  obtain ⟨opcode, text, hnext, -⟩ := disassembleOne_ready h A
  obtain ⟨⟨hclk, hovr, hdir⟩, hsync⟩ := h
  have hpos := readsOf_pos (s.memory.read A.toNat) (s.memory.read (A + 1).toNat)
  exact ⟨_, _, _, hnext, rfl, readsOf_eq _ _, rfl, rfl, rfl, decoded_z80PC hpos .., decoded_pulseTotal hpos ..,
    hovr, hdir, hclk, hsync⟩

/-- Settles O37: equal bytes at `A` are one instruction, and what it returns does not depend on the state. -/
theorem decodeIsDeterministic : Obligations.DecodeIsDeterministic := by
  unfold Obligations.DecodeIsDeterministic
  intro s s' A h h' hbytes
  have hA : Ready { s with pc := A } := h
  have hA' : Ready { s' with pc := A } := h'
  have hinstr : fetchInstr { s with pc := A } = fetchInstr { s' with pc := A } := fetchInstr_congr hA hA' hbytes
  obtain ⟨pfx, opcode, text, len, reads, hexec, -⟩ := exec_isDecode (fetchInstr { s with pc := A })
  have hnext : disassembleOne A s = .next (decoded pfx opcode text len (reads + 1) { s with pc := A }) := by
    rw [disassembleOne, decodeAtCursor, hexec, present_ready hA]
  have hnext' : disassembleOne A s' = .next (decoded pfx opcode text len (reads + 1) { s' with pc := A }) := by
    rw [disassembleOne, decodeAtCursor, ← hinstr, hexec, present_ready hA']
  exact ⟨_, _, hnext, hnext', rfl, rfl⟩

/-! ## Listings -/

theorem andThen_andThen {α β γ : Type} (o : Host.Outcome α Fault Refusal) (f : α → Host.Outcome β Fault Refusal)
    (g : β → Host.Outcome γ Fault Refusal) : andThen (andThen o f) g = andThen o fun a => andThen (f a) g := by
  cases o <;> rfl

/-- A listing starts with one decode, from whose cursor the rest goes on. -/
theorem disassembleN_succ {s t : State} {A : Word} (ht : disassembleOne A s = .next t) (n : Nat) :
    disassembleN A (n + 1) s = andThen (disassembleN t.pc n t) fun rest =>
      .next (((A, returnedText t) :: rest.1.1, rest.1.2), rest.2) := by
  rw [disassembleN, ht, andThen_next]

/-- What a loop of decodes needs of each: a session stays open, memory is as before, the cursor is the address returned. -/
theorem disassembleOne_returns {s : State} (h : Ready s) (A : Word) :
    ∃ t d, disassembleOne A s = .next t ∧ t.returned = some (.decoded d) ∧ t.pc = d.newAddress ∧ Ready t ∧
      t.memory = s.memory := by
  obtain ⟨opcode, text, hnext, -⟩ := disassembleOne_ready h A
  exact ⟨_, _, hnext, rfl, rfl, h, rfl⟩

theorem returnedText_of_returned {t : State} {d : Decoded} (h : t.returned = some (.decoded d)) :
    returnedText t = d.text := by
  rw [returnedText, h]

/-- Every listing in an open session completes, stores nothing and leaves the session open. -/
theorem disassembleN_completes (n : Nat) {s : State} (h : Ready s) (A : Word) :
    ∃ out a t, disassembleN A n s = .next ((out, a), t) ∧ out.length = n ∧ Ready t ∧ t.memory = s.memory := by
  induction n generalizing s A with
  | zero => exact ⟨[], A, s, rfl, rfl, h, rfl⟩
  | succ n ih =>
    obtain ⟨t, d, hnext, -, -, ht, hmem⟩ := disassembleOne_returns h A
    obtain ⟨out, a, u, hrest, hlen, hu, humem⟩ := ih ht t.pc
    refine ⟨(A, returnedText t) :: out, a, u, ?_, congrArg (· + 1) hlen, hu, humem.trans hmem⟩
    rw [disassembleN_succ hnext, hrest, andThen_next]

/-- A listing splits at any count, from any state, also where it stops. -/
theorem disassembleN_add (m n : Nat) (A : Word) (s : State) :
    disassembleN A (m + n) s = andThen (disassembleN A m s) fun first =>
      andThen (disassembleN first.1.2 n first.2) fun second =>
        .next ((first.1.1 ++ second.1.1, second.1.2), second.2) := by
  induction m generalizing s A with
  | zero =>
    rw [Nat.zero_add, disassembleN, andThen_next]
    cases disassembleN A n s <;> rfl
  | succ m ih =>
    rw [Nat.succ_add, disassembleN, disassembleN, andThen_andThen]
    congr 1
    funext t
    simp only [ih, andThen_andThen, andThen_next, List.cons_append]

/-- Settles O38: by induction on the count of the listing, and on that of its first part. -/
theorem listingComposes : Obligations.ListingComposes := by
  unfold Obligations.ListingComposes
  intro s A h
  refine ⟨rfl, fun n => disassembleN_completes n h A, fun m n => disassembleN_add m n A s, ?one⟩
  case one =>
    obtain ⟨t, d, hnext, hret, hpc, -, -⟩ := disassembleOne_returns h A
    refine ⟨t, d, hnext, hret, ?_⟩
    rw [disassembleN_succ hnext, disassembleN, andThen_next, returnedText_of_returned hret, hpc]

end Sys2Proof.Machine
end

section
/-! PROOFS. The order of a session (70_reset_and_hazards.md R394): `resetCpu` opens it, every read, load and decode leaves
it open, and the operations that leave HL loaded at an address are the ones a `writeByte` to that address may follow. -/

namespace Sys2Proof.Machine

/-- `resetCpu` opens a session from every operation boundary. -/
theorem resetCpu_opens {s : State} (h : AtRest s) : ∃ t, resetCpu s = .next t ∧ Ready t :=
  ⟨_, resetCpu_atRest h, h, rfl⟩

/-- A `writeByte` at the address where HL was loaded completes and leaves the session open. -/
theorem writeByte_completes {s : State} {a : Word} (h : Ready s) (hl : s.hlLoaded = true) (ha : s.z80HL = a)
    (v : Byte) : ∃ t, writeByte a v s = .next t ∧ Ready t := by
  subst ha
  exact ⟨_, writeByte_eq_afterWrite h hl v, ready_afterWrite h v⟩

/-- What a completed `writeByte` leaves: a session, HL loaded at the next address. -/
theorem writeByte_advances {s t : State} {a : Word} {v : Byte} (h : Ready s) (ht : writeByte a v s = .next t) :
    Ready t ∧ t.hlLoaded = true ∧ t.z80HL = a + 1 := by
  obtain ⟨hl, rfl, -⟩ := writeByte_eq_next h ht
  cases (writeByte_eq_afterWrite h hl v).symm.trans ht
  exact ⟨ready_afterWrite h v, hl, rfl⟩

/-- `readWord` in an open session: the bytes at the two addresses, the first one the more significant. -/
theorem readWord_ready {s : State} (h : Ready s) (a : Word) :
    readWord a s = .next (wordOf (s.memory.read a.toNat) (s.memory.read (a + 1).toNat),
      afterRead (a + 1) (afterRead a s)) := by
  rw [readWord, readByte_ready h, andThen_next, readByte_ready (ready_afterRead h a), andThen_next]
  rfl

/-- Settles O50: each operation completes in a state of which `Ready` is known, and a load, a read and a write leave HL
loaded where `writeByte_completes` wants it. -/
theorem sessionOrder : Obligations.SessionOrder := by
  unfold Obligations.SessionOrder
  refine ⟨fun s h => resetCpu_opens h, fun s h => ⟨fun a => ?load, fun a v u hu => ?write, fun a => ?read,
    fun a => ?word, fun a => ?decode⟩⟩
  case load =>
    exact ⟨_, loadIndexRegister_ready h a, h, writeByte_completes h rfl rfl⟩
  case write =>
    obtain ⟨hready, hloaded, hHL⟩ := writeByte_advances h hu
    exact ⟨hready, writeByte_completes hready hloaded hHL⟩
  case read =>
    have hready := ready_afterRead h a
    exact ⟨_, _, readByte_ready h a, hready, writeByte_completes hready rfl rfl⟩
  case word =>
    exact ⟨_, _, readWord_ready h a, ready_afterRead (ready_afterRead h a) (a + 1)⟩
  case decode =>
    obtain ⟨t, -, hnext, -, -, hready, -⟩ := disassembleOne_returns h a
    exact ⟨t, hnext, hready⟩

end Sys2Proof.Machine
end

section
/-! PROOFS. Decode and encode are inverse to each other (30_encoding.md R76, R85, R92): every well-formed instruction
stands in the cell of the map its encoding points to, and the bytes of what is decoded are the bytes that were read. -/

namespace Sys2Proof

/-! ## The decode of an encoding, map by map -/

section
variable (ir : IndexReg) (y z : Fin 8) (b1 b2 b3 : Byte)

theorem decode_op0 : decode (op 0 y z) b1 b2 b3 = decodeX0 ⟨0, y, z⟩ b1 b2 := by
  rw [decode, decodeUnprefixed, fields_op]

theorem decode_op1 : decode (op 1 y z) b1 b2 b3 = decodeX1 ⟨1, y, z⟩ := by
  rw [decode, decodeUnprefixed, fields_op]

theorem decode_op2 : decode (op 2 y z) b1 b2 b3 = decodeX2 ⟨2, y, z⟩ := by
  rw [decode, decodeUnprefixed, fields_op]

theorem decode_op3 : decode (op 3 y z) b1 b2 b3 =
    decodeX3 (decodeCb b1) (decodeEd b1 b2 b3) (fun ir => decodeDdFd ir b1 b2 b3) ⟨3, y, z⟩ b1 b2 := by
  rw [decode, decodeUnprefixed, fields_op]

theorem decode_cb : decode 0xCB b1 b2 b3 = decodeCb b1 := rfl

theorem decode_ed : decode 0xED b1 b2 b3 = decodeEd b1 b2 b3 := rfl

theorem decode_ed0 : decode 0xED (op 0 y z) b2 b3 = .edNopX0 y z := by
  rw [decode_ed, decodeEd, fields_op]

theorem decode_ed1 : decode 0xED (op 1 y z) b2 b3 = decodeEdX1 ⟨1, y, z⟩ b2 b3 := by
  rw [decode_ed, decodeEd, fields_op]

theorem decode_ed2 : decode 0xED (op 2 y z) b2 b3 = decodeEdX2 ⟨2, y, z⟩ := by
  rw [decode_ed, decodeEd, fields_op]

theorem decode_ed3 : decode 0xED (op 3 y z) b2 b3 = .edNopX3 y z := by
  rw [decode_ed, decodeEd, fields_op]

theorem decode_prefixByte : decode (prefixByte ir) b1 b2 b3 = decodeDdFd ir b1 b2 b3 := by
  cases ir <;> rfl

theorem decode_index0 : decode (prefixByte ir) (op 0 y z) b2 b3 = indexForm ir b2 b3 (decodeX0 ⟨0, y, z⟩ b2 b3) := by
  rw [decode_prefixByte, decodeDdFd, decodeUnprefixed, fields_op]

theorem decode_index1 : decode (prefixByte ir) (op 1 y z) b2 b3 = indexForm ir b2 b3 (decodeX1 ⟨1, y, z⟩) := by
  rw [decode_prefixByte, decodeDdFd, decodeUnprefixed, fields_op]

theorem decode_index2 : decode (prefixByte ir) (op 2 y z) b2 b3 = indexForm ir b2 b3 (decodeX2 ⟨2, y, z⟩) := by
  rw [decode_prefixByte, decodeDdFd, decodeUnprefixed, fields_op]

theorem decode_index3 : decode (prefixByte ir) (op 3 y z) b2 b3 =
    indexForm ir b2 b3 (decodeX3 (decodeXcb ir b2 b3) (.loneEd ir) (.loneDdFd ir) ⟨3, y, z⟩ b2 b3) := by
  rw [decode_prefixByte, decodeDdFd, decodeUnprefixed, fields_op]

theorem decode_loneDdFd (jr : IndexReg) : decode (prefixByte ir) (prefixByte jr) b2 b3 = .loneDdFd ir jr := by
  cases jr
  · exact decode_index3 ir 3 5 b2 b3
  · exact decode_index3 ir 7 5 b2 b3

theorem decode_loneEd : decode (prefixByte ir) 0xED b2 b3 = .loneEd ir := decode_index3 ir 5 5 b2 b3

/-- A `DD CB` or `FD CB` form is complete: `indexForm` makes nothing else of it. -/
theorem indexForm_decodeXcb : indexForm ir b2 b3 (decodeXcb ir b2 b3) = decodeXcb ir b2 b3 := by
  unfold decodeXcb
  split
  · split <;> rfl
  all_goals rfl

theorem decode_xcb : decode (prefixByte ir) 0xCB b2 b3 = decodeXcb ir b2 b3 :=
  (decode_prefixByte ..).trans (indexForm_decodeXcb ..)

end

/-- The decode of a list's first four bytes, zeros standing for those past its end. -/
def decodeWindow (bs : List Byte) : Instr := decode (byteAt bs 0) (byteAt bs 1) (byteAt bs 2) (byteAt bs 3)

/-- Every well-formed instruction is in the cell of the map where its encoding points, whatever bytes follow. -/
theorem decode_encode {i : Instr} (hw : wellFormed i = true) (rest : List Byte) :
    decodeWindow (encode i ++ lookahead i ++ rest) = i := by
  cases i
  case nop | exAfAf | ldBcA | ldDeA | ldABc | ldADe | incM | decM | rlca | rrca | rla | rra | daa | cpl | scf | ccf
    | djnz d | jr d | ldMN n =>
    exact decode_op0 ..
  case jrCc y d | incR y | decR y | ldRN y n =>
    fin_cases y <;> first | exact decode_op0 .. | exact nomatch hw
  case ldRpNn p nn =>
    fin_cases p <;> exact (decode_op0 ..).trans (congrArg _ (operandWord_lo8_hi8 nn))
  case addHlRp p | incRp p | decRp p =>
    fin_cases p <;> exact decode_op0 ..
  case ldNnHl nn | ldNnA nn | ldHlNni nn | ldANni nn =>
    exact (decode_op0 ..).trans (congrArg _ (operandWord_lo8_hi8 nn))
  case ldRR y z =>
    fin_cases y <;> fin_cases z <;> first | exact decode_op1 .. | exact nomatch hw
  case ldRM y =>
    fin_cases y <;> first | exact decode_op1 .. | exact nomatch hw
  case ldMR z =>
    fin_cases z <;> first | exact decode_op1 .. | exact nomatch hw
  case halt =>
    exact decode_op1 ..
  case addR z | adcR z | subR z | sbcR z | andR z | xorR z | orR z | cpR z =>
    fin_cases z <;> first | exact decode_op2 .. | exact nomatch hw
  case addM | adcM | subM | sbcM | andM | xorM | orM | cpM =>
    exact decode_op2 ..
  case retCc y | rst y | ret | exx | jpHl | ldSpHl | exSpHl | exDeHl | di | ei | outNA n | inAN n | addN n | adcN n
    | subN n | sbcN n | andN n | xorN n | orN n | cpN n =>
    exact decode_op3 ..
  case popRp2 p | pushRp2 p =>
    fin_cases p <;> exact decode_op3 ..
  case jpCcNn y nn | callCcNn y nn | jpNn nn | callNn nn =>
    exact (decode_op3 ..).trans (congrArg _ (operandWord_lo8_hi8 nn))
  case cbRlc z | cbRrc z | cbRl z | cbRr z | cbSla z | cbSra z | cbSll z | cbSrl z | cbBit y z | cbRes y z |
    cbSet y z =>
    refine (decode_cb (op ..) ..).trans ?_
    rw [decodeCb, fields_op]
  case inRC y | outCR y | retn y | edNopX1 y =>
    fin_cases y <;> first | exact decode_ed1 .. | exact nomatch hw
  case inC | outC0 | reti | ldIA | ldRA | ldAI | ldAR | rrd | rld | neg y | im y =>
    exact decode_ed1 ..
  case sbcHlRp p | adcHlRp p =>
    fin_cases p <;> exact decode_ed1 ..
  case ldNnRp p nn | ldRpNni p nn =>
    fin_cases p <;> exact (decode_ed1 ..).trans (congrArg _ (operandWord_lo8_hi8 nn))
  case ldi | cpi | ini | outi | ldd | cpd | ind | outd | ldir | cpir | inir | otir | lddr | cpdr | indr | otdr =>
    exact decode_ed2 ..
  case edNopX2 y z =>
    fin_cases y <;> fin_cases z <;> first | exact decode_ed2 .. | exact nomatch hw
  case edNopX0 y z =>
    exact decode_ed0 ..
  case edNopX3 y z =>
    exact decode_ed3 ..
  case loneDdFd ir jr =>
    exact decode_loneDdFd ..
  case loneEd ir =>
    exact decode_loneEd ..
  case addIRp ir p =>
    fin_cases p <;> exact decode_index0 ..
  case ldINn ir nn | ldNnI ir nn | ldINni ir nn | passLdNnA ir nn | passLdANni ir nn =>
    exact (decode_index0 ..).trans (congrArg _ (operandWord_lo8_hi8 nn))
  case incI ir | decI ir | passNop ir | passExAfAf ir | passLdBcA ir | passLdDeA ir | passLdABc ir | passLdADe ir |
    passRlca ir | passRrca ir | passRla ir | passRra ir | passDaa ir | passCpl ir | passScf ir | passCcf ir |
    incID ir d | decID ir d | passDjnz ir d | passJr ir d | ldIDN ir d n =>
    exact decode_index0 ..
  case passJrCc ir y d | passIncR ir y | passDecR ir y | passLdRN ir y n =>
    fin_cases y <;> first | exact decode_index0 .. | exact nomatch hw
  case passLdRpNn ir p nn =>
    fin_cases p <;> first | exact (decode_index0 ..).trans (congrArg _ (operandWord_lo8_hi8 nn)) | exact nomatch hw
  case passIncRp ir p | passDecRp ir p =>
    fin_cases p <;> first | exact decode_index0 .. | exact nomatch hw
  case ldRID ir y d =>
    fin_cases y <;> first | exact decode_index1 .. | exact nomatch hw
  case ldIDR ir d z =>
    fin_cases z <;> first | exact decode_index1 .. | exact nomatch hw
  case passLdRR ir y z =>
    fin_cases y <;> fin_cases z <;> first | exact decode_index1 .. | exact nomatch hw
  case passHalt ir =>
    exact decode_index1 ..
  case addID ir d | adcID ir d | subID ir d | sbcID ir d | andID ir d | xorID ir d | orID ir d | cpID ir d =>
    exact decode_index2 ..
  case passAddR ir z | passAdcR ir z | passSubR ir z | passSbcR ir z | passAndR ir z | passXorR ir z | passOrR ir z
    | passCpR ir z =>
    fin_cases z <;> first | exact decode_index2 .. | exact nomatch hw
  case popI ir | exSpI ir | pushI ir | jpI ir | ldSpI ir | passRet ir | passExx ir | passExDeHl ir | passDi ir |
    passEi ir | passRetCc ir y | passRst ir y | passOutNA ir n | passInAN ir n | passAddN ir n | passAdcN ir n |
    passSubN ir n | passSbcN ir n | passAndN ir n | passXorN ir n | passOrN ir n | passCpN ir n =>
    exact decode_index3 ..
  case passPopRp2 ir p | passPushRp2 ir p =>
    fin_cases p <;> first | exact decode_index3 .. | exact nomatch hw
  case passJpCcNn ir y nn | passCallCcNn ir y nn | passJpNn ir nn | passCallNn ir nn =>
    exact (decode_index3 ..).trans (congrArg _ (operandWord_lo8_hi8 nn))
  case xcbRlc ir d z | xcbRrc ir d z | xcbRl ir d z | xcbRr ir d z | xcbSla ir d z | xcbSra ir d z | xcbSll ir d z |
    xcbSrl ir d z | xcbBit ir d y z | xcbRes ir d y z | xcbSet ir d y z =>
    refine (decode_xcb _ d (op ..)).trans ?_
    rw [decodeXcb, fields_op]

/-! ## The bytes of what is decoded, map by map -/

/-- The bytes a decode of `i` reads: the encoding, and what a lone `DD` or `FD` looks at (30_encoding.md R85). -/
def examined (i : Instr) : List Byte := encode i ++ lookahead i

/-- The two bytes of a 16-bit operand, as the encoder writes them back. -/
theorem operandBytes (b1 b2 : Byte) : [lo8 (operandWord b1 b2), hi8 (operandWord b1 b2)] = [b1, b2] := by
  rw [lo8_operandWord, hi8_operandWord]

theorem examined_decodeX0 (y z : Fin 8) (b1 b2 b3 : Byte) :
    examined (decodeX0 ⟨0, y, z⟩ b1 b2) = [op 0 y z, b1, b2, b3].take (unprefixedLength (op 0 y z)) := by
  fin_cases z <;> fin_cases y <;> first | rfl | exact congrArg (List.cons _) (operandBytes b1 b2)

theorem examined_decodeX1 (y z : Fin 8) : examined (decodeX1 ⟨1, y, z⟩) = [op 1 y z] := by
  revert y z; decide

theorem examined_decodeX2 (y z : Fin 8) : examined (decodeX2 ⟨2, y, z⟩) = [op 2 y z] := by
  revert y z; decide

theorem unprefixedLength_op1 (y z : Fin 8) : unprefixedLength (op 1 y z) = 1 := by revert y z; decide

theorem unprefixedLength_op2 (y z : Fin 8) : unprefixedLength (op 2 y z) = 1 := by revert y z; decide

/-- Of the cells of `X = 3`, `CB`, `DD`, `ED` and `FD` are not unprefixed forms. -/
theorem examined_decodeX3 {y z : Fin 8} (h : classify (op 3 y z) = .unprefixed) (c e : Instr)
    (i : IndexReg → Instr) (b1 b2 b3 : Byte) :
    examined (decodeX3 c e i ⟨3, y, z⟩ b1 b2) = [op 3 y z, b1, b2, b3].take (unprefixedLength (op 3 y z)) := by
  fin_cases z <;> fin_cases y <;>
    first | rfl | exact congrArg (List.cons _) (operandBytes b1 b2) | exact nomatch h

theorem examined_decodeUnprefixed {b : Byte} (h : classify b = .unprefixed) (c e : Instr)
    (i : IndexReg → Instr) (b1 b2 b3 : Byte) :
    examined (decodeUnprefixed c e i b b1 b2) = [b, b1, b2, b3].take (unprefixedLength b) := by
  obtain ⟨x, y, z, rfl⟩ := exists_eq_op b
  rw [decodeUnprefixed, fields_op]
  match x with
  | 0 => exact examined_decodeX0 y z b1 b2 b3
  | 1 => rw [unprefixedLength_op1]; exact examined_decodeX1 y z
  | 2 => rw [unprefixedLength_op2]; exact examined_decodeX2 y z
  | 3 => exact examined_decodeX3 h c e i b1 b2 b3

theorem examined_decodeCb (b : Byte) : examined (decodeCb b) = [0xCB, b] := by
  revert b; decide

theorem examined_decodeEdX1 (y z : Fin 8) (b2 b3 : Byte) :
    examined (decodeEdX1 ⟨1, y, z⟩ b2 b3) = [0xED, op 1 y z, b2, b3].take (if z == 3 then 4 else 2) := by
  fin_cases z <;> fin_cases y <;>
    first | rfl | exact congrArg (0xED :: op 1 _ _ :: ·) (operandBytes b2 b3)

theorem examined_decodeEd (b b2 b3 : Byte) :
    examined (decodeEd b b2 b3) = [0xED, b, b2, b3].take (lengthOf 0xED b) := by
  obtain ⟨x, y, z, rfl⟩ := exists_eq_op b
  rw [decodeEd, lengthOf_ed, fields_op]
  match x with
  | 0 => rfl
  | 1 => exact examined_decodeEdX1 y z b2 b3
  | 2 => fin_cases z <;> fin_cases y <;> rfl
  | 3 => rfl

theorem examined_indexForm_decodeX0 (ir : IndexReg) (y z : Fin 8) (b2 b3 : Byte) :
    examined (indexForm ir b2 b3 (decodeX0 ⟨0, y, z⟩ b2 b3)) =
      [prefixByte ir, op 0 y z, b2, b3].take (readsOf (prefixByte ir) (op 0 y z)) := by
  cases ir <;> fin_cases z <;> fin_cases y <;>
    first | rfl | exact congrArg (prefixByte _ :: op 0 _ _ :: ·) (operandBytes b2 b3)

theorem examined_indexForm_decodeX1 (ir : IndexReg) (y z : Fin 8) (b2 b3 : Byte) :
    examined (indexForm ir b2 b3 (decodeX1 ⟨1, y, z⟩)) =
      [prefixByte ir, op 1 y z, b2, b3].take (readsOf (prefixByte ir) (op 1 y z)) := by
  cases ir <;> fin_cases z <;> fin_cases y <;> rfl

theorem examined_indexForm_decodeX2 (ir : IndexReg) (y z : Fin 8) (b2 b3 : Byte) :
    examined (indexForm ir b2 b3 (decodeX2 ⟨2, y, z⟩)) =
      [prefixByte ir, op 2 y z, b2, b3].take (readsOf (prefixByte ir) (op 2 y z)) := by
  cases ir <;> fin_cases z <;> fin_cases y <;> rfl

theorem examined_decodeXcb (ir : IndexReg) (d b : Byte) :
    examined (decodeXcb ir d b) = [prefixByte ir, 0xCB, d, b] := by
  obtain ⟨x, y, z, rfl⟩ := exists_eq_op b
  rw [decodeXcb, fields_op]
  match x with
  | 0 => fin_cases y <;> rfl
  | 1 => rfl
  | 2 => rfl
  | 3 => rfl

/-- Of the cells of `X = 3`, the second byte `CB` leads to the `DD CB` map; `DD`, `ED` and `FD` are looked at only. -/
theorem examined_indexForm_decodeX3 (ir : IndexReg) (y z : Fin 8) (b2 b3 : Byte) :
    examined (indexForm ir b2 b3 (decodeX3 (decodeXcb ir b2 b3) (.loneEd ir) (.loneDdFd ir) ⟨3, y, z⟩ b2 b3)) =
      [prefixByte ir, op 3 y z, b2, b3].take (readsOf (prefixByte ir) (op 3 y z)) := by
  have hxcb : examined (indexForm ir b2 b3 (decodeXcb ir b2 b3)) = [prefixByte ir, 0xCB, b2, b3] := by
    rw [indexForm_decodeXcb, examined_decodeXcb]
  cases ir <;> fin_cases z <;> fin_cases y <;>
    first | rfl | exact congrArg (prefixByte _ :: op 3 _ _ :: ·) (operandBytes b2 b3) | exact hxcb

theorem examined_decodeDdFd (ir : IndexReg) (b1 b2 b3 : Byte) :
    examined (decodeDdFd ir b1 b2 b3) = [prefixByte ir, b1, b2, b3].take (readsOf (prefixByte ir) b1) := by
  obtain ⟨x, y, z, rfl⟩ := exists_eq_op b1
  rw [decodeDdFd, decodeUnprefixed, fields_op]
  match x with
  | 0 => exact examined_indexForm_decodeX0 ir y z b2 b3
  | 1 => exact examined_indexForm_decodeX1 ir y z b2 b3
  | 2 => exact examined_indexForm_decodeX2 ir y z b2 b3
  | 3 => exact examined_indexForm_decodeX3 ir y z b2 b3

/-- Only after `DD` and `FD` is a byte read that is not consumed. -/
theorem readsOf_eq_lengthOf {b0 : Byte} (h : Machine.isIndexed (classify b0) = false) (b1 : Byte) :
    readsOf b0 b1 = lengthOf b0 b1 := by
  rw [← Machine.readCount_classify, Machine.readCount, h, Bool.and_false, if_neg Bool.false_ne_true]

theorem lengthOf_le_readsOf (b0 b1 : Byte) : lengthOf b0 b1 ≤ readsOf b0 b1 := by
  rw [readsOf]
  split
  case isTrue h =>
    have h1 : lengthOf b0 b1 = 1 := by simp_all
    omega
  case isFalse => exact le_rfl

/-- What the decoder reads is the bytes it was given, as many as `readsOf` announces. -/
theorem examined_decode (b0 b1 b2 b3 : Byte) :
    examined (decode b0 b1 b2 b3) = [b0, b1, b2, b3].take (readsOf b0 b1) := by
  cases h : classify b0 with
  | unprefixed =>
    have hr : readsOf b0 b1 = unprefixedLength b0 := by rw [readsOf_eq_lengthOf (by rw [h]; rfl), lengthOf, h]
    rw [hr]
    exact examined_decodeUnprefixed h _ _ _ b1 b2 b3
  | cb =>
    obtain rfl := eq_of_classify_cb h
    rw [readsOf_eq_lengthOf rfl]
    exact examined_decodeCb b1
  | ed =>
    obtain rfl := eq_of_classify_ed h
    rw [readsOf_eq_lengthOf rfl]
    exact examined_decodeEd b1 b2 b3
  | ddfd ir =>
    obtain rfl := eq_of_classify_ddfd h
    rw [decode_prefixByte]
    exact examined_decodeDdFd ir b1 b2 b3

/-- What is decoded encodes back to the bytes it consumes. -/
theorem encode_decode (b0 b1 b2 b3 : Byte) :
    encode (decode b0 b1 b2 b3) = [b0, b1, b2, b3].take (lengthOf b0 b1) := by
  have hl := length_encode_decode b0 b1 b2 b3
  have h := congrArg (List.take (lengthOf b0 b1)) (examined_decode b0 b1 b2 b3)
  rw [examined, List.take_left' hl, List.take_take, Nat.min_eq_left (lengthOf_le_readsOf b0 b1)] at h
  exact h

/-! ## Lists of bytes -/

/-- As far as a list reaches, its window is the list. -/
theorem take_window {bs : List Byte} {n : Nat} (hn : n ≤ 4) (hb : n ≤ bs.length) :
    [byteAt bs 0, byteAt bs 1, byteAt bs 2, byteAt bs 3].take n = bs.take n := by
  refine List.ext_getElem (by simp; omega) fun k hk _ => ?_
  rw [List.length_take] at hk
  have hbs : k < bs.length := by omega
  have h4 : k < 4 := by omega
  have hk : bs[k] = byteAt bs k := (List.getD_eq_getElem bs 0 hbs).symm
  rw [List.getElem_take, List.getElem_take, hk]
  interval_cases k <;> rfl

theorem length_examined_decodeWindow (bs : List Byte) :
    (examined (decodeWindow bs)).length = readsOf (byteAt bs 0) (byteAt bs 1) := by
  rw [decodeWindow, examined_decode, List.length_take]
  exact Nat.min_eq_left (readsOf_le_four _ _)

theorem length_encode_decodeWindow (bs : List Byte) :
    (encode (decodeWindow bs)).length = lengthOf (byteAt bs 0) (byteAt bs 1) := length_encode_decode ..

/-- A list decodes where it holds all that the decoder reads. -/
theorem decodeBytes_of_readsOf_le {bs : List Byte} (h : readsOf (byteAt bs 0) (byteAt bs 1) ≤ bs.length) :
    decodeBytes bs = .ok (decodeWindow bs, bs.drop (lengthOf (byteAt bs 0) (byteAt bs 1))) := by
  have hpos := Machine.readsOf_pos (byteAt bs 0) (byteAt bs 1)
  have hne : ¬bs.isEmpty := by
    rw [List.isEmpty_iff_length_eq_zero]
    omega
  have hlast : ¬(bs.drop (readsOf (byteAt bs 0) (byteAt bs 1) - 1)).isEmpty := by
    rw [List.isEmpty_iff_length_eq_zero, List.length_drop]
    omega
  rw [decodeBytes, if_neg hne, if_neg hlast, decodeWindow]

/-- Only such a list decodes. -/
theorem decodeBytes_eq_ok {bs rest : List Byte} {i : Instr} (h : decodeBytes bs = .ok (i, rest)) :
    readsOf (byteAt bs 0) (byteAt bs 1) ≤ bs.length ∧ i = decodeWindow bs ∧
      rest = bs.drop (lengthOf (byteAt bs 0) (byteAt bs 1)) := by
  have hpos := Machine.readsOf_pos (byteAt bs 0) (byteAt bs 1)
  unfold decodeBytes at h
  split at h
  · cases h
  · split at h
    · cases h
    · rename_i h1 h2
      cases h
      refine ⟨?_, rfl, rfl⟩
      simp at h2
      omega

/-! ## The statements -/

/-- Settles O28: what the encoding decodes to is `i` by `decode_encode`, and its reads are the bytes `examined`. -/
theorem decodeOfEncode : Obligations.DecodeOfEncode := by
  unfold Obligations.DecodeOfEncode
  intro i rest hw
  have hd := decode_encode hw rest
  have hr := length_examined_decodeWindow (encode i ++ lookahead i ++ rest)
  have hl := length_encode_decodeWindow (encode i ++ lookahead i ++ rest)
  rw [hd] at hr hl
  rw [decodeBytes_of_readsOf_le, hd, ← hl, List.append_assoc, List.drop_left]
  rw [← hr, List.length_append (as := encode i ++ lookahead i)]
  exact Nat.le_add_right ..

/-- Settles O29: a list that decodes holds its reads, and the consumed ones are `encode_decode`. -/
theorem encodeOfDecode : Obligations.EncodeOfDecode := by
  unfold Obligations.EncodeOfDecode
  intro bytes rest i h
  obtain ⟨hreads, rfl, rfl⟩ := decodeBytes_eq_ok h
  refine ⟨wellFormed_decode .., ?_⟩
  rw [decodeWindow, encode_decode, take_window (lengthOf_bounds _ _).2 ((lengthOf_le_readsOf _ _).trans hreads),
    List.take_append_drop]

/-- Settles O31: bytes equal where they are read start with one encoding, and `decode_encode` decodes it. -/
theorem decodeReadsOnlyItsBytes : Obligations.DecodeReadsOnlyItsBytes := by
  unfold Obligations.DecodeReadsOnlyItsBytes
  intro b0 b1 b2 b3 c1 c2 c3 h1 h2 h3
  have hsame : [b0, c1, c2, c3].take (readsOf b0 b1) = [b0, b1, b2, b3].take (readsOf b0 b1) := by
    have hmax := readsOf_le_four b0 b1
    interval_cases readsOf b0 b1 <;> simp_all
  have h := decode_encode (wellFormed_decode b0 b1 b2 b3) ([b0, c1, c2, c3].drop (readsOf b0 b1))
  rw [← examined, examined_decode, ← hsame, List.take_append_drop] at h
  exact h

end Sys2Proof
end

section
/-! PROOFS. Every step keeps the invariant (10_state.md sections 1 to 3; 70_reset_and_hazards.md section 2): what an
operation of the channel or a decode can do is said once, as `Advances`; `resetCpu` and a direct call have lemmas of
their own. -/

namespace Sys2Proof.Machine

/-! ## What an operation can do -/

/-- All that an operation of the channel or a decode can do to what the invariant speaks of: the pins are at rest,
`sync` and the reset line as before, memory canonical, the Z80's place kept in a session and not known otherwise, and
the events recorded count the pulses, pair the override and leave the reset line alone. -/
structure Advances (s t : State) : Prop where
  clk : t.clk = s.clk
  rst : t.rst = s.rst
  sync : t.sync = s.sync
  ramOvr : t.ramOvr = .released
  dbusDir : t.dbusDir = .inPullup
  place_session : s.sync = .boundary → t.z80Place = s.z80Place
  place_desynced : s.sync ≠ .boundary → t.z80Place = .unknown
  memory_wf : s.memory.wf = true → t.memory.wf = true
  returned : t.returned = s.returned ∨ ∃ r, t.returned = some r ∧ r.ok
  traced : ∃ events, t.pinTrace = s.pinTrace ++ events ∧ t.pulseTotal = s.pulseTotal + events.count .pulse ∧
    events.count .ovrAssert = events.count .ovrRelease ∧ events.count .rstAssert = 0

theorem Advances.trans {s t u : State} (h : Advances s t) (g : Advances t u) : Advances s u where
  clk := g.clk.trans h.clk
  rst := g.rst.trans h.rst
  sync := g.sync.trans h.sync
  ramOvr := g.ramOvr
  dbusDir := g.dbusDir
  place_session hb := (g.place_session (h.sync.trans hb)).trans (h.place_session hb)
  place_desynced hb := g.place_desynced (h.sync ▸ hb)
  memory_wf hm := g.memory_wf (h.memory_wf hm)
  returned := by
    rcases g.returned with hg | hg
    · rw [hg]; exact h.returned
    · exact .inr hg
  traced := by
    obtain ⟨e, h1, h2, h3, h4⟩ := h.traced
    obtain ⟨f, g1, g2, g3, g4⟩ := g.traced
    refine ⟨e ++ f, ?_, ?_, ?_, ?_⟩
    · rw [g1, h1, List.append_assoc]
    · rw [g2, h2, List.count_append, Nat.add_assoc]
    · rw [List.count_append, List.count_append, h3, g3]
    · rw [List.count_append, h4, g4]

/-! ## The pin events since reset -/

theorem sinceReset_append {trace events : List PinEvent} (h : events.count .rstAssert = 0) :
    sinceReset (trace ++ events) = sinceReset trace ++ events := by
  have hall : ∀ e ∈ events.reverse, (e != .rstAssert) = true := by
    intro e he
    rw [List.mem_reverse] at he
    simp only [bne_iff_ne]
    rintro rfl
    exact List.count_eq_zero.mp h he
  rw [sinceReset, List.reverse_append, List.takeWhile_append_of_pos hall, List.reverse_append, List.reverse_reverse]
  rfl

/-- An operation keeps the invariant. -/
theorem StateInv.advances {s t : State} (hs : StateInv s) (h : Advances s t) : StateInv t := by
  obtain ⟨events, htrace, hpulses, hpaired, hreset⟩ := h.traced
  have hplace : t.z80Place.ok t ∧ ∀ v k, t.z80Place ≠ .cycle (.writeHl v (k + 1)) := by
    by_cases hb : s.sync = .boundary
    · rw [h.place_session hb, hs.boundary_place hb]
      exact ⟨⟨h.rst.trans (hs.boundary_rest hb).2.2, by rw [h.sync, hb]; decide, Nat.zero_le 2⟩, nofun⟩
    · rw [h.place_desynced hb]
      exact ⟨trivial, nofun⟩
  constructor
  case memory_wf => exact h.memory_wf hs.memory_wf
  case clk_low => exact h.clk.trans hs.clk_low
  case bus_owned => rw [h.dbusDir]; nofun
  case boundary_place =>
    intro hb
    rw [h.sync] at hb
    exact (h.place_session hb).trans (hs.boundary_place hb)
  case boundary_rest =>
    intro hb
    rw [h.sync] at hb
    exact ⟨h.ramOvr, h.dbusDir, h.rst.trans (hs.boundary_rest hb).2.2⟩
  case pulses_counted => rw [hpulses, htrace, List.count_append, hs.pulses_counted]
  case override_paired =>
    intro hb
    rw [h.sync] at hb
    rw [htrace, sinceReset_append hreset, List.count_append, List.count_append, hs.override_paired hb, hpaired]
  case returned_ok =>
    intro r hr
    rcases h.returned with heq | ⟨r', hr', hok⟩
    · exact hs.returned_ok r (heq ▸ hr)
    · cases hr.symm.trans hr'
      exact hok
  case place_ok => exact hplace.1
  case write_undriven => exact fun v k hw => absurd hw (hplace.2 v k)

/-! ## The operations of the channel -/

theorem StateInv.ready {s : State} (h : StateInv s) (hb : s.sync = .boundary) : Ready s :=
  ⟨⟨h.clk_low, (h.boundary_rest hb).1, (h.boundary_rest hb).2.1⟩, hb⟩

theorem StateInv.desynced {s : State} (h : StateInv s) (hb : s.sync ≠ .boundary) : Desynced s :=
  ⟨h.clk_low, h.bus_owned, hb⟩

/-- Between two steps a session is open or not. -/
theorem StateInv.ready_or_desynced {s : State} (h : StateInv s) : Ready s ∨ Desynced s := by
  by_cases hb : s.sync = .boundary
  · exact .inl (h.ready hb)
  · exact .inr (h.desynced hb)

theorem loadIndexRegister_advances {s t : State} {v : Word} (h : Ready s ∨ Desynced s)
    (ht : loadIndexRegister v s = .next t) : Advances s t := by
  rcases h with h | h
  · cases (loadIndexRegister_ready h v).symm.trans ht
    obtain ⟨⟨-, hovr, hdir⟩, hb⟩ := h
    exact
      { clk := rfl, rst := rfl, sync := rfl, ramOvr := hovr, dbusDir := hdir
        place_session := fun _ => rfl, place_desynced := fun hn => absurd hb hn
        memory_wf := id, returned := .inl rfl
        traced := ⟨loadEvents v, rfl, by simp, by simp, by simp⟩ }
  · cases (loadIndexRegister_desynced h v).symm.trans ht
    exact
      { clk := rfl, rst := rfl, sync := rfl, ramOvr := rfl, dbusDir := rfl
        place_session := fun hb => absurd hb h.2.2, place_desynced := fun _ => rfl
        memory_wf := fun hm => Memory.wf_writeAll hm _, returned := .inl rfl
        traced := ⟨loadEvents v, rfl, by simp, by simp, by simp⟩ }

theorem readByte_advances {s t : State} {a : Word} {v : Byte} (h : Ready s ∨ Desynced s)
    (ht : readByte a s = .next (v, t)) : Advances s t := by
  rcases h with h | h
  · cases (readByte_ready h a).symm.trans ht
    obtain ⟨⟨-, hovr, hdir⟩, hb⟩ := h
    exact
      { clk := rfl, rst := rfl, sync := rfl, ramOvr := hovr, dbusDir := hdir
        place_session := fun _ => rfl, place_desynced := fun hn => absurd hb hn
        memory_wf := id, returned := .inl rfl
        traced := ⟨readEvents a _, rfl, by simp [afterRead], by simp, by simp⟩ }
  · cases (readByte_desynced h a).symm.trans ht
    exact
      { clk := rfl, rst := rfl, sync := rfl, ramOvr := rfl, dbusDir := rfl
        place_session := fun hb => absurd hb h.2.2, place_desynced := fun _ => rfl
        memory_wf := fun hm => Memory.wf_writeAll (Memory.wf_writeAll hm _) _, returned := .inl rfl
        traced := ⟨readEvents a _, rfl, by simp [afterReadDesynced], by simp, by simp⟩ }

theorem storeAndAdvance_advances {s t : State} {v : Byte} (h : Ready s ∨ Desynced s)
    (ht : storeAndAdvance v s = .next t) : Advances s t := by
  rcases h with h | h
  · cases (storeAndAdvance_ready h v).symm.trans ht
    obtain ⟨⟨-, hovr, hdir⟩, hb⟩ := h
    exact
      { clk := rfl, rst := rfl, sync := rfl, ramOvr := hovr, dbusDir := hdir
        place_session := fun _ => rfl, place_desynced := fun hn => absurd hb hn
        memory_wf := fun hm => Memory.wf_write hm s.z80HL.isLt v, returned := .inl rfl
        traced := ⟨writeEvents v, rfl, by simp, by simp, by simp⟩ }
  · cases (storeAndAdvance_desynced h v).symm.trans ht
    exact
      { clk := rfl, rst := rfl, sync := rfl, ramOvr := rfl, dbusDir := rfl
        place_session := fun hb => absurd hb h.2.2, place_desynced := fun _ => rfl
        memory_wf := fun hm => Memory.wf_writeAll (Memory.wf_writeAll hm _) _, returned := .inl rfl
        traced := ⟨writeEvents v, rfl, by simp, by simp, by simp⟩ }

/-- A `writeByte` that completes is the store, in a session at the cursor. -/
theorem storeAndAdvance_of_writeByte {s t : State} {a : Word} {v : Byte} (ht : writeByte a v s = .next t) :
    storeAndAdvance v s = .next t := by
  unfold writeByte at ht
  split at ht
  · split at ht
    · cases ht
    · split at ht
      · cases ht
      · exact ht
  · exact ht

/-- The state an operation leaves is one the next operation may start in. -/
theorem Advances.ready_or_desynced {s t : State} (h : Advances s t) (hs : Ready s ∨ Desynced s) :
    Ready t ∨ Desynced t := by
  rcases hs with hs | hs
  · exact .inl ⟨⟨h.clk.trans hs.1.1, h.ramOvr, h.dbusDir⟩, h.sync.trans hs.2⟩
  · exact .inr (desynced_of_atRest ⟨h.clk.trans hs.1, h.ramOvr, h.dbusDir⟩ (h.sync ▸ hs.2.2))

theorem readWord_advances {s t : State} {a w : Word} (h : Ready s ∨ Desynced s)
    (ht : readWord a s = .next (w, t)) : Advances s t := by
  obtain ⟨⟨v, s1⟩, h1, ht⟩ := andThen_eq_next ht
  obtain ⟨⟨v', s2⟩, h2, ht⟩ := andThen_eq_next ht
  cases ht
  have hfirst := readByte_advances h h1
  exact hfirst.trans (readByte_advances (hfirst.ready_or_desynced h) h2)

/-- The events of a run of reads count its pulses, pair the override and leave the reset line alone. -/
theorem traced_reads (n : Nat) (address : Nat → Word) (value : Nat → Byte) :
    ((List.range n).flatMap fun k => readEvents (address k) (value k)).count .pulse = 17 * n ∧
    ((List.range n).flatMap fun k => readEvents (address k) (value k)).count .ovrAssert = 2 * n ∧
    ((List.range n).flatMap fun k => readEvents (address k) (value k)).count .ovrRelease = 2 * n ∧
    ((List.range n).flatMap fun k => readEvents (address k) (value k)).count .rstAssert = 0 := by
  simp [List.count_flatMap, Function.comp_def, Nat.mul_comm]

theorem exec_advances {s t : State} {i : Instr} (h : Ready s ∨ Desynced s) (ht : exec i s = .next t) :
    Advances s t := by
  obtain ⟨pfx, opcode, text, len, reads, hexec, hmin, hmax, -, -, -, htext⟩ := exec_isDecode i
  have hok : (Returned.decoded ⟨pfx, fields opcode, text, len, s.pc + BitVec.ofNat 16 len⟩).ok :=
    ⟨hmin, hmax, List.isEmpty_eq_false_iff.mp htext⟩
  rw [hexec] at ht
  rcases h with h | h
  · cases (present_ready h pfx opcode text len reads).symm.trans ht
    obtain ⟨⟨-, hovr, hdir⟩, hb⟩ := h
    obtain ⟨h1, h2, h3, h4⟩ := traced_reads (reads + 1) (fun k => s.pc + BitVec.ofNat 16 k) (targetByte s)
    exact
      { clk := rfl, rst := rfl, sync := rfl, ramOvr := hovr, dbusDir := hdir
        place_session := fun _ => rfl, place_desynced := fun hn => absurd hb hn
        memory_wf := id, returned := .inr ⟨_, rfl, hok⟩
        traced := ⟨readsEvents s (reads + 1), rfl, congrArg (s.pulseTotal + ·) h1.symm, h2.trans h3.symm, h4⟩ }
  · obtain ⟨t', ht', ⟨hclk, hovr, hdir⟩, hsync, hrst, -, -, -, hpulse, -, htrace, hmem, -, hret, hplace⟩ :=
      present_desynced h pfx opcode text len (reads + 1) (Nat.succ_ne_zero reads)
    cases ht'.symm.trans ht
    obtain ⟨h1, h2, h3, h4⟩ := traced_reads (reads + 1) (fun k => s.pc + BitVec.ofNat 16 k)
      (fun k => Config.freeByte (s.freeTick + 2 * k + 1))
    exact
      { clk := hclk.trans h.1.symm, rst := hrst, sync := hsync, ramOvr := hovr, dbusDir := hdir
        place_session := fun hb => absurd hb h.2.2, place_desynced := fun _ => hplace
        memory_wf := hmem, returned := .inr ⟨_, hret, hok⟩
        traced := ⟨_, htrace, hpulse.trans (congrArg (s.pulseTotal + ·) h1.symm), h2.trans h3.symm, h4⟩ }

/-! ## `resetCpu` -/

/-- `resetCpu` completes only from an operation boundary. -/
theorem atRest_of_resetCpu {s t : State} (hc : s.clk = .low) (ht : resetCpu s = .next t) : AtRest s := by
  unfold resetCpu at ht
  split at ht
  · cases ht
  · rename_i hf
    split at ht
    · cases ht
    · rename_i hovr
      have hr : s.ramOvr = .released := by
        cases h : s.ramOvr with
        | asserted => exact absurd h hovr
        | released => rfl
      refine ⟨hc, hr, ?_⟩
      cases hd : s.dbusDir with
      | inPullup => rfl
      | out => simp [busFight, hd, hr] at hf

theorem sinceReset_resetEvents (trace : List PinEvent) :
    sinceReset (trace ++ resetEvents) = pulses 6 ++ [PinEvent.rstRelease] ++ pulses 2 := by
  have h : trace ++ resetEvents =
      (trace ++ [PinEvent.rstAssert]) ++ (pulses 6 ++ [PinEvent.rstRelease] ++ pulses 2) := by
    simp [resetEvents]
  have hlast : sinceReset (trace ++ [PinEvent.rstAssert]) = [] := by simp [sinceReset]
  rw [h, sinceReset_append (by simp [pulses]), hlast, List.nil_append]

theorem resetCpu_stateInv {s t : State} (hs : StateInv s) (ht : resetCpu s = .next t) : StateInv t := by
  have hrest := atRest_of_resetCpu hs.clk_low ht
  cases (resetCpu_atRest hrest).symm.trans ht
  obtain ⟨hclk, hovr, hdir⟩ := hrest
  constructor
  case memory_wf => exact hs.memory_wf
  case clk_low => exact hclk
  case bus_owned => exact hs.bus_owned
  case boundary_place => exact fun _ => rfl
  case boundary_rest => exact fun _ => ⟨hovr, hdir, rfl⟩
  case pulses_counted => simp [effectResetCpu, hs.pulses_counted]
  case override_paired =>
    intro _
    simp only [effectResetCpu, sinceReset_resetEvents]
    simp [pulses]
  case returned_ok => exact hs.returned_ok
  case place_ok => exact ⟨rfl, by simp [effectResetCpu], Nat.zero_le 2⟩
  case write_undriven => exact nofun

/-! ## Direct calls -/

/-- What a primitive does to the reset line. -/
def rstAfter : BusOp → Line → Line
  | .assertReset, _ => .asserted
  | .releaseReset, _ => .released
  | .pulse _, rst | .setDataBusOutput _, rst | .setDataBusInput, rst | .sampleDataBus, rst | .assertRamOverride, rst
  | .releaseRamOverride, rst => rst

/-- What a primitive does to the direction of the data pins. -/
def dirAfter : BusOp → DataDir → DataDir
  | .setDataBusOutput _, _ => .out
  | .setDataBusInput, _ => .inPullup
  | .pulse _, dir | .sampleDataBus, dir | .assertRamOverride, dir | .releaseRamOverride, dir | .assertReset, dir
  | .releaseReset, dir => dir

theorem runOp_rst_dir {bus : Byte} {busOp : BusOp} {s t : State} (h : runOp bus busOp s = .next t) :
    t.rst = rstAfter busOp s.rst ∧ t.dbusDir = dirAfter busOp s.dbusDir := by
  unfold runOp at h
  split at h
  · cases h
  · cases busOp <;>
      simp only [pulse, setDataBusOutput, setDataBusInput, sampleDataBus, assertRamOverride, releaseRamOverride,
        assertReset, releaseReset] at h <;>
      (repeat' split at h) <;> cases h <;> exact ⟨rfl, rfl⟩

/-- The release of the reset line: only a reset of full length leads to a place of its own. -/
theorem placeOnRelease_place {s t : State} (hs : StateInv s) (hrst : t.rst = .released) (hdir : t.dbusDir = s.dbusDir)
    (hplace : t.z80Place = s.z80Place) (hlost : s.rst = .released → t.sync ≠ .unknown) :
    (placeOnRelease t.z80Place).ok { t with z80Place := placeOnRelease t.z80Place } ∧
      ∀ v k, placeOnRelease t.z80Place = .cycle (.writeHl v (k + 1)) → t.dbusDir = .inPullup := by
  have hok := hs.place_ok
  rw [hplace, hdir]
  cases hp : s.z80Place with
  | unknown => exact ⟨trivial, nofun⟩
  | resetting n =>
    simp only [placeOnRelease]
    split
    · exact ⟨⟨hrst, Nat.zero_lt_two⟩, nofun⟩
    · exact ⟨trivial, nofun⟩
  | starting n =>
    rw [hp] at hok
    exact ⟨⟨hrst, hok.2⟩, nofun⟩
  | cycle phase =>
    rw [hp] at hok
    exact ⟨⟨hrst, hlost hok.1, hok.2.2⟩, fun v k hw => hs.write_undriven v k (hp.trans hw)⟩

/-- The place the Z80 is left in by a direct call fits the reset line and `sync`, and no driven bus meets a write. -/
theorem clockZ80_place {busOp : BusOp} {s t u : State} (hs : StateInv s)
    (hrst : t.rst = rstAfter busOp s.rst) (hdir : t.dbusDir = dirAfter busOp s.dbusDir)
    (hplace : t.z80Place = s.z80Place) (hsync : t.sync = if s.rst = .released then .lost else s.sync)
    (hu : clockZ80 busOp t = .next u) :
    u.z80Place.ok u ∧ ∀ v k, u.z80Place = .cycle (.writeHl v (k + 1)) → u.dbusDir = .inPullup := by
  have hlost : s.rst = .released → t.sync ≠ .unknown := by
    intro hr
    rw [hsync, if_pos hr]
    decide
  have hok : t.rst = s.rst → t.z80Place.ok t := by
    intro hr
    have h := hs.place_ok
    rw [hplace]
    cases hp : s.z80Place with
    | unknown => trivial
    | resetting n => rw [hp] at h; exact hr.trans h
    | starting n => rw [hp] at h; exact ⟨hr.trans h.1, h.2⟩
    | cycle phase => rw [hp] at h; exact ⟨hr.trans h.1, hlost h.1, h.2.2⟩
  have hwrite : t.dbusDir = s.dbusDir → ∀ v k, t.z80Place = .cycle (.writeHl v (k + 1)) → t.dbusDir = .inPullup := by
    intro hd v k hw
    rw [hd]
    exact hs.write_undriven v k (hplace ▸ hw)
  cases busOp with
  | pulse n => exact directTStates_place (hrst ▸ hlost) (hok hrst) (hwrite hdir) hu
  | assertReset =>
    cases hu
    exact ⟨hrst, nofun⟩
  | releaseReset =>
    cases hu
    exact placeOnRelease_place hs hrst hdir hplace hlost
  | setDataBusOutput v =>
    simp only [clockZ80] at hu
    split at hu
    · cases hu
    · rename_i hn
      cases hu
      exact ⟨hok hrst, fun v k hw => absurd hw (hn v k)⟩
  | setDataBusInput =>
    cases hu
    exact ⟨hok hrst, fun _ _ _ => hdir⟩
  | sampleDataBus | assertRamOverride | releaseRamOverride =>
    cases hu
    exact ⟨hok hrst, hwrite hdir⟩

/-- What a direct call can do: it moves its pin, clocks the Z80 and records a sample. -/
theorem directPrimitive_eq_next {busOp : BusOp} {s t : State} (h : directPrimitive busOp s = .next t) :
    ∃ moved clocked, runOp (directBusByte s) busOp (directDesync s) = .next moved ∧
      clockZ80 busOp moved = .next clocked ∧ t = recordSample busOp s clocked := by
  obtain ⟨moved, hmoved, h⟩ := andThen_eq_next h
  obtain ⟨clocked, hclocked, h⟩ := andThen_eq_next h
  cases h
  exact ⟨moved, clocked, hmoved, hclocked, rfl⟩

theorem recordSample_returned (busOp : BusOp) (s t : State) :
    (recordSample busOp s t).returned =
      if busOp = .sampleDataBus then some (.byte (directBusByte s)) else t.returned := by
  cases busOp <;> rfl

theorem recordSample_place_ok (busOp : BusOp) (s t : State) (p : Z80Place) :
    p.ok (recordSample busOp s t) ↔ p.ok t := by
  cases p <;> simp [Z80Place.ok]

theorem directPrimitive_stateInv {busOp : BusOp} {s t : State} (hs : StateInv s)
    (ht : directPrimitive busOp s = .next t) : StateInv t := by
  obtain ⟨moved, clocked, hmoved, hclocked, rfl⟩ := directPrimitive_eq_next ht
  have hm := runOp_movesPins hmoved
  have hc := clockZ80_clocks hclocked
  obtain ⟨hrst, hdir⟩ := runOp_rst_dir hmoved
  simp only [directDesync_rst, directDesync_dbusDir] at hrst hdir
  obtain ⟨hok, hwrite⟩ := clockZ80_place hs hrst hdir (hm.z80Place.trans (directDesync_z80Place s))
    (hm.sync.trans (directDesync_sync s)) hclocked
  have hsync : clocked.sync ≠ .boundary := by
    rw [hc.sync, hm.sync, directDesync_sync]
    split
    · decide
    · exact fun hb => absurd (hs.boundary_rest hb).2.2 ‹_›
  constructor
  case memory_wf =>
    rw [recordSample_memory]
    exact hc.memory_wf (by rw [hm.memory, directDesync_memory]; exact hs.memory_wf)
  case clk_low => rw [recordSample_clk, hc.clk, hm.clk, directDesync_clk, hs.clk_low]
  case bus_owned =>
    have h := hm.stays_owned
    rw [recordSample_dbusDir, recordSample_ramOvr, hc.dbusDir, hc.ramOvr]
    intro hd
    cases hovr : moved.ramOvr with
    | asserted => rfl
    | released => simp [busFight, hd, hovr] at h
  case boundary_place => exact fun hb => absurd (recordSample_sync .. ▸ hb) hsync
  case boundary_rest => exact fun hb => absurd (recordSample_sync .. ▸ hb) hsync
  case override_paired => exact fun hb => absurd (recordSample_sync .. ▸ hb) hsync
  case pulses_counted =>
    have h := hm.counted
    rw [directDesync_pulseTotal, directDesync_pinTrace, hs.pulses_counted] at h
    rw [recordSample_pulseTotal, recordSample_pinTrace, hc.pulseTotal, hc.pinTrace]
    omega
  case returned_ok =>
    intro r hr
    rw [recordSample_returned] at hr
    split at hr
    · cases hr
      trivial
    · rw [hc.returned, hm.returned, directDesync_returned] at hr
      exact hs.returned_ok r hr
  case place_ok =>
    rw [recordSample_z80Place, recordSample_place_ok]
    exact hok
  case write_undriven =>
    rw [recordSample_z80Place, recordSample_dbusDir]
    exact hwrite

/-! ## The statement -/

/-- The queue and the cursor are none of the invariant's fields. -/
theorem StateInv.withCallsAt {s : State} (h : StateInv s) (calls : List HostCall) (pc : Word) :
    StateInv { s with calls := calls, pc := pc } where
  memory_wf := h.memory_wf
  clk_low := h.clk_low
  bus_owned := h.bus_owned
  boundary_place := h.boundary_place
  boundary_rest := h.boundary_rest
  pulses_counted := h.pulses_counted
  override_paired := h.override_paired
  returned_ok := h.returned_ok
  place_ok := h.place_ok
  write_undriven := h.write_undriven

theorem StateInv.withReturned {s : State} (h : StateInv s) {r : Returned} (hr : r.ok) :
    StateInv { s with returned := some r } where
  memory_wf := h.memory_wf
  clk_low := h.clk_low
  bus_owned := h.bus_owned
  boundary_place := h.boundary_place
  boundary_rest := h.boundary_rest
  pulses_counted := h.pulses_counted
  override_paired := h.override_paired
  returned_ok := by
    intro r' hr'
    cases hr'
    exact hr
  place_ok := h.place_ok
  write_undriven := h.write_undriven

theorem decodeAtCursor_stateInv {s t : State} (hs : StateInv s) (ht : decodeAtCursor s = .next t) : StateInv t :=
  hs.advances (exec_advances hs.ready_or_desynced ht)

theorem runCall_stateInv {c : HostCall} {s t : State} (hs : StateInv s) (ht : runCall c s = .next t) :
    StateInv t := by
  have hstart := hs.ready_or_desynced
  cases c with
  | resetCpu => exact resetCpu_stateInv hs ht
  | loadIndexRegister v => exact hs.advances (loadIndexRegister_advances hstart ht)
  | readByte a =>
    obtain ⟨⟨v, u⟩, hu, ht⟩ := andThen_eq_next ht
    cases ht
    exact (hs.advances (readByte_advances hstart hu)).withReturned trivial
  | readWord a =>
    obtain ⟨⟨w, u⟩, hu, ht⟩ := andThen_eq_next ht
    cases ht
    exact (hs.advances (readWord_advances hstart hu)).withReturned trivial
  | writeByte a v => exact hs.advances (storeAndAdvance_advances hstart (storeAndAdvance_of_writeByte ht))
  | disassembleOne a => exact decodeAtCursor_stateInv (hs.withCallsAt s.calls a) ht
  | primitive busOp => exact directPrimitive_stateInv hs ht

/-- Settles O59: by the kind of call, an operation by `Advances`, a reset and a direct call by their own lemmas. -/
theorem stepKeepsInvariant : Obligations.StepKeepsInvariant := by
  unfold Obligations.StepKeepsInvariant
  intro s t hs ht
  unfold step nextCall at ht
  split at ht
  · exact decodeAtCursor_stateInv hs ht
  · exact runCall_stateInv (hs.withCallsAt _ s.pc) ht

end Sys2Proof.Machine
end

section
/-! PROOFS. The instruction forms (files 43 to 48): each rule has two halves. That the bytes decode to the instruction
is `decodeOfEncode`; that the instruction completes with its text, its length and its reads is
`present_ready_of_pos`. -/

namespace Sys2Proof.Machine

/-! ## A form's rule from its encoding and its meaning -/

theorem encode_length_pos (i : Instr) : 1 ≤ (encode i).length := by
  cases i <;> exact Nat.succ_le_succ (Nat.zero_le _)

/-- The rule of a well-formed instruction that looks at no byte it does not consume: its bytes are its encoding, and its
meaning reads them and presents the text. -/
theorem formRule {i : Instr} {bytes : List Byte} {pfx : PrefixClass} {opcode : Byte} {text : Text}
    (hw : wellFormed i = true := by rfl)
    (hexec : exec i = present pfx opcode text bytes.length bytes.length := by rfl)
    (hencode : encode i = bytes := by rfl) (hlook : lookahead i = [] := by rfl) : FormRule i bytes pfx opcode text := by
  subst hencode
  constructor
  case left =>
    intro rest
    have h := decodeOfEncode i rest hw
    rwa [hlook, List.append_nil, List.nil_append] at h
  case right =>
    intro s hs
    exact ⟨0x7E, (congrFun hexec s).trans (present_ready_of_pos hs (encode_length_pos i) ..)⟩

/-- The rule of a form after `DD` and after `FD`, proved for both prefixes at once. -/
theorem indexRule {form : IndexReg → Instr} {rest : List Byte} {text : Text → Text}
    (hw : ∀ ir, wellFormed (form ir) = true := by exact fun _ => rfl)
    (hexec : ∀ ir, exec (form ir) =
      presentIndex ir (byteAt rest 0) (text (indexName ir)) (rest.length + 1) := by exact fun _ => rfl)
    (hencode : ∀ ir, encode (form ir) = prefixByte ir :: rest := by exact fun _ => rfl)
    (hlook : ∀ ir, lookahead (form ir) = [] := by exact fun _ => rfl) : IndexRule form rest text :=
  ⟨formRule (hw .ix) (hexec .ix) (hencode .ix) (hlook .ix), formRule (hw .iy) (hexec .iy) (hencode .iy) (hlook .iy)⟩

/-- The rule of a `DD CB d op` and `FD CB d op` form, proved for both prefixes at once. -/
theorem indexCbRule {form : IndexReg → Instr} {d opcode : Byte} {text : Text → Text}
    (hw : ∀ ir, wellFormed (form ir) = true := by exact fun _ => rfl)
    (hexec : ∀ ir, exec (form ir) = presentIndex ir opcode (text (indexName ir)) 4 := by exact fun _ => rfl)
    (hencode : ∀ ir, encode (form ir) = [prefixByte ir, 0xCB, d, opcode] := by exact fun _ => rfl)
    (hlook : ∀ ir, lookahead (form ir) = [] := by exact fun _ => rfl) : IndexCbRule form d opcode text :=
  ⟨formRule (hw .ix) (hexec .ix) (hencode .ix) (hlook .ix), formRule (hw .iy) (hexec .iy) (hencode .iy) (hlook .iy)⟩

/-! ## The guards of the forms, as the statements write them -/

theorem isRegister_of_ne {y : Fin 8} (h : y ≠ 6) : isRegister y = true := bne_iff_ne.mpr h

theorem isRegister_and {y z : Fin 8} (hy : y ≠ 6) (hz : z ≠ 6) : (isRegister y && isRegister z) = true := by
  rw [isRegister_of_ne hy, isRegister_of_ne hz, Bool.and_true]

theorem isJrCondition_of_le {y : Fin 8} (h : 4 ≤ y) : isJrCondition y = true := decide_eq_true h

theorem isRetn_of_ne {y : Fin 8} (h : y ≠ 1) : isRetn y = true := bne_iff_ne.mpr h

theorem isTopPair_of_le {y : Fin 8} (h : 6 ≤ y) : isTopPair y = true := decide_eq_true h

theorem isOutsideBlock_of {y z : Fin 8} (h : y < 4 ∨ 4 ≤ z) : isOutsideBlock y z = true := by
  simpa [isOutsideBlock] using h

theorem isPassPair_of_ne {p : Fin 4} (h : p ≠ 2) : isPassPair p = true := bne_iff_ne.mpr h

theorem restartAddress_eq (y : Fin 8) : restartAddress y = BitVec.ofNat 8 (y.val * 8) := by
  rw [restartAddress, Nat.mul_comm]

theorem modeIndex_eq (y : Fin 8) : modeIndex y = Fin.ofNat 4 (y.val % 4) := by
  revert y; decide

/-! ## The unprefixed forms -/

/-- Settles O1: one read, the bytes and the meaning of `NOP`. -/
theorem nopRule : Obligations.NopRule := formRule

/-- Settles O2: every form by `formRule`; `JR cc` has its own guard. -/
theorem jumpAndAccumulatorForms : Obligations.JumpAndAccumulatorForms := by
  unfold Obligations.JumpAndAccumulatorForms
  exact ⟨formRule, fun _ => formRule, fun _ => formRule, fun _ _ h => formRule (isJrCondition_of_le h),
    formRule, formRule, formRule, formRule, formRule, formRule, formRule, formRule⟩

/-- Settles O3: every form by `formRule`, index 6 of the register forms being excluded by their guard. -/
theorem pairAndByteForms : Obligations.PairAndByteForms := by
  unfold Obligations.PairAndByteForms
  exact ⟨fun _ _ => formRule, fun _ => formRule, fun _ => formRule, fun _ => formRule,
    fun _ h => formRule (isRegister_of_ne h), formRule, fun _ h => formRule (isRegister_of_ne h), formRule,
    fun _ _ h => formRule (isRegister_of_ne h), fun _ => formRule⟩

/-- Settles O4: every form by `formRule`. -/
theorem indirectLoadForms : Obligations.IndirectLoadForms := by
  unfold Obligations.IndirectLoadForms
  exact ⟨formRule, formRule, fun _ => formRule, fun _ => formRule, formRule, formRule,
    fun _ => formRule, fun _ => formRule⟩

/-- Settles O5: every form by `formRule`, each register operand being guarded. -/
theorem loadAndHaltForms : Obligations.LoadAndHaltForms := by
  unfold Obligations.LoadAndHaltForms
  exact ⟨fun _ _ hy hz => formRule (isRegister_and hy hz), fun _ h => formRule (isRegister_of_ne h),
    fun _ h => formRule (isRegister_of_ne h), formRule⟩

/-- Settles O6: every form by `formRule`, each register operand being guarded. -/
theorem accumulatorOperationForms : Obligations.AccumulatorOperationForms := by
  unfold Obligations.AccumulatorOperationForms
  exact ⟨fun _ h => formRule (isRegister_of_ne h), formRule, fun _ h => formRule (isRegister_of_ne h), formRule,
    fun _ h => formRule (isRegister_of_ne h), formRule, fun _ h => formRule (isRegister_of_ne h), formRule,
    fun _ h => formRule (isRegister_of_ne h), formRule, fun _ h => formRule (isRegister_of_ne h), formRule,
    fun _ h => formRule (isRegister_of_ne h), formRule, fun _ h => formRule (isRegister_of_ne h), formRule⟩

/-- Settles O7: every form by `formRule`; the restart address is computed. -/
theorem controlFlowForms : Obligations.ControlFlowForms := by
  unfold Obligations.ControlFlowForms
  exact ⟨fun _ => formRule, formRule, formRule, fun _ _ => formRule, fun _ => formRule,
    fun _ _ => formRule, fun _ => formRule, fun y => restartAddress_eq y ▸ formRule⟩

/-- Settles O8: every form by `formRule`. -/
theorem stackExchangeAndPortForms : Obligations.StackExchangeAndPortForms := by
  unfold Obligations.StackExchangeAndPortForms
  exact ⟨fun _ => formRule, fun _ => formRule, formRule, formRule, formRule, formRule,
    fun _ => formRule, fun _ => formRule, formRule, formRule⟩

/-- Settles O9: every form by `formRule`. -/
theorem immediateOperationForms : Obligations.ImmediateOperationForms := by
  unfold Obligations.ImmediateOperationForms
  exact ⟨fun _ => formRule, fun _ => formRule, fun _ => formRule, fun _ => formRule,
    fun _ => formRule, fun _ => formRule, fun _ => formRule, fun _ => formRule⟩

/-! ## The `CB` forms -/

/-- Settles O10: every form by `formRule`. -/
theorem cbForms : Obligations.CbForms := by
  unfold Obligations.CbForms
  exact ⟨fun _ => formRule, fun _ => formRule, fun _ => formRule, fun _ => formRule,
    fun _ => formRule, fun _ => formRule, fun _ => formRule, fun _ _ => formRule,
    fun _ _ => formRule, fun _ _ => formRule⟩

/-! ## The `ED` forms -/

/-- Settles O11: every form by `formRule`, index 6 of the register forms being excluded by their guard. -/
theorem edPortAndPairForms : Obligations.EdPortAndPairForms := by
  unfold Obligations.EdPortAndPairForms
  exact ⟨fun _ h => formRule (isRegister_of_ne h), formRule, fun _ h => formRule (isRegister_of_ne h), formRule,
    fun _ => formRule, fun _ => formRule, fun _ _ => formRule, fun _ _ => formRule⟩

/-- Settles O12: every form by `formRule`; `RETN` has its own guard, and the mode is computed. -/
theorem edSystemForms : Obligations.EdSystemForms := by
  unfold Obligations.EdSystemForms
  exact ⟨fun _ => formRule, fun _ h => formRule (isRetn_of_ne h), formRule,
    fun y => modeIndex_eq y ▸ formRule, formRule, formRule, formRule, formRule, formRule,
    formRule⟩

/-- Settles O13: every form by `formRule`. -/
theorem edBlockForms : Obligations.EdBlockForms := by
  unfold Obligations.EdBlockForms
  exact ⟨formRule, formRule, formRule, formRule, formRule, formRule, formRule, formRule⟩

/-- Settles O14: every form by `formRule`. -/
theorem edRepeatBlockForms : Obligations.EdRepeatBlockForms := by
  unfold Obligations.EdRepeatBlockForms
  exact ⟨formRule, formRule, formRule, formRule, formRule, formRule, formRule, formRule⟩

/-- Settles O15: every form by `formRule`, the cells that are no other form being guarded. -/
theorem edFallbackForms : Obligations.EdFallbackForms := by
  unfold Obligations.EdFallbackForms
  exact ⟨fun _ h => formRule (isTopPair_of_le h), fun _ _ h => formRule (isOutsideBlock_of h),
    fun _ _ => formRule, fun _ _ => formRule⟩

/-! ## The `DD` and `FD` forms -/

/-- Settles O16: the second byte is what `decodeOfEncode` leaves unread, and the meaning makes two reads. -/
theorem lonePrefixForms : Obligations.LonePrefixForms := by
  unfold Obligations.LonePrefixForms
  refine ⟨fun jr rest => ⟨decodeOfEncode (.loneDdFd .ix jr) rest rfl, decodeOfEncode (.loneDdFd .iy jr) rest rfl⟩,
    fun rest => ⟨decodeOfEncode (.loneEd .ix) rest rfl, decodeOfEncode (.loneEd .iy) rest rfl⟩, ⟨rfl, rfl⟩,
    fun ir jr s hs => ⟨⟨0x7E, ?_⟩, ⟨0x7E, ?_⟩⟩⟩
  · exact present_ready hs (.ddfd ir) (prefixByte jr) "NOP".toList 1 1
  · exact present_ready hs (.ddfd ir) 0xED "NOP".toList 1 1

/-- Settles O17: every form by `indexRule`, for both prefixes at once. -/
theorem indexPairForms : Obligations.IndexPairForms := by
  unfold Obligations.IndexPairForms
  exact ⟨fun _ => indexRule, fun _ => indexRule, fun _ => indexRule,
    indexRule, fun _ => indexRule, indexRule, indexRule,
    indexRule, indexRule, indexRule, indexRule⟩

theorem ldIDN_text (ir : IndexReg) (d n : Byte) : txt "LD " ++ indexed ir d ++ txt "," ++ hex2 n =
    "LD (".toList ++ indexName ir ++ "+".toList ++ hex2 d ++ "),".toList ++ hex2 n := by
  cases ir <;> rfl

theorem ldRID_text (ir : IndexReg) (y : Fin 8) (d : Byte) : txt "LD " ++ register8 y ++ txt "," ++ indexed ir d =
    "LD ".toList ++ register8 y ++ ",(".toList ++ indexName ir ++ "+".toList ++ hex2 d ++ ")".toList := by
  cases ir <;> fin_cases y <;> rfl

theorem ldIDR_text (ir : IndexReg) (d : Byte) (z : Fin 8) : txt "LD " ++ indexed ir d ++ txt "," ++ register8 z =
    "LD (".toList ++ indexName ir ++ "+".toList ++ hex2 d ++ "),".toList ++ register8 z := by
  cases ir <;> rfl

/-- Settles O18: every form by `indexRule`, a register operand being guarded, the three loads by their texts. -/
theorem indexMemoryForms : Obligations.IndexMemoryForms := by
  unfold Obligations.IndexMemoryForms
  exact ⟨fun _ => indexRule, fun _ => indexRule,
    fun d n => indexRule (hexec := fun ir => congrArg (presentIndex ir _ · 4) (ldIDN_text ir d n)),
    fun y d h => indexRule (fun _ => isRegister_of_ne h) fun ir => congrArg (presentIndex ir _ · 3) (ldRID_text ir y d),
    fun d z h => indexRule (fun _ => isRegister_of_ne h) fun ir => congrArg (presentIndex ir _ · 3) (ldIDR_text ir d z),
    fun _ => indexRule, fun _ => indexRule, fun _ => indexRule, fun _ => indexRule, fun _ => indexRule,
    fun _ => indexRule, fun _ => indexRule, fun _ => indexRule⟩

/-! ### Pass-through -/

/-- Settles O19: every form by `indexRule`; a condition, a register and a pair are guarded. -/
theorem passThroughFormsX0 : Obligations.PassThroughFormsX0 := by
  unfold Obligations.PassThroughFormsX0
  exact ⟨indexRule, indexRule, fun _ => indexRule, fun _ => indexRule,
    fun _ _ h => indexRule fun _ => isJrCondition_of_le h, fun _ _ h => indexRule fun _ => isPassPair_of_ne h,
    indexRule, indexRule, fun _ => indexRule, indexRule, indexRule, fun _ => indexRule,
    fun _ h => indexRule fun _ => isPassPair_of_ne h, fun _ h => indexRule fun _ => isPassPair_of_ne h,
    fun _ h => indexRule fun _ => isRegister_of_ne h, fun _ h => indexRule fun _ => isRegister_of_ne h,
    fun _ _ h => indexRule fun _ => isRegister_of_ne h, indexRule, indexRule, indexRule, indexRule, indexRule,
    indexRule, indexRule, indexRule⟩

/-- Settles O20: every form by `indexRule`, each register operand being guarded. -/
theorem passThroughFormsX1X2 : Obligations.PassThroughFormsX1X2 := by
  unfold Obligations.PassThroughFormsX1X2
  exact ⟨fun _ _ hy hz => indexRule fun _ => isRegister_and hy hz, indexRule,
    fun _ h => indexRule fun _ => isRegister_of_ne h, fun _ h => indexRule fun _ => isRegister_of_ne h,
    fun _ h => indexRule fun _ => isRegister_of_ne h, fun _ h => indexRule fun _ => isRegister_of_ne h,
    fun _ h => indexRule fun _ => isRegister_of_ne h, fun _ h => indexRule fun _ => isRegister_of_ne h,
    fun _ h => indexRule fun _ => isRegister_of_ne h, fun _ h => indexRule fun _ => isRegister_of_ne h⟩

/-- Settles O21: every form by `indexRule`, a pair being guarded; the restart address is computed. -/
theorem passThroughFormsX3 : Obligations.PassThroughFormsX3 := by
  unfold Obligations.PassThroughFormsX3
  exact ⟨fun _ => indexRule, fun _ h => indexRule fun _ => isPassPair_of_ne h, indexRule, indexRule,
    fun _ _ => indexRule, fun _ => indexRule, fun _ => indexRule, fun _ => indexRule, indexRule, indexRule, indexRule,
    fun _ _ => indexRule, fun _ h => indexRule fun _ => isPassPair_of_ne h, fun _ => indexRule, fun _ => indexRule,
    fun _ => indexRule, fun _ => indexRule, fun _ => indexRule, fun _ => indexRule, fun _ => indexRule,
    fun _ => indexRule, fun _ => indexRule, fun y => restartAddress_eq y ▸ indexRule⟩

/-! ### `DD CB` and `FD CB` -/

/-- Settles O22: `SLL` by `formRule`, the forms with a displacement by `indexCbRule`. -/
theorem indexCbForms : Obligations.IndexCbForms := by
  unfold Obligations.IndexCbForms
  exact ⟨fun _ => formRule, fun _ _ => indexCbRule, fun _ _ => indexCbRule, fun _ _ => indexCbRule,
    fun _ _ => indexCbRule, fun _ _ => indexCbRule, fun _ _ => indexCbRule, fun _ _ => indexCbRule,
    fun _ _ => indexCbRule, fun _ _ _ => indexCbRule, fun _ _ _ => indexCbRule, fun _ _ _ => indexCbRule⟩

end Sys2Proof.Machine
end

section
/-! PROOFS. The BusDriver primitives (40_busdriver_ops.md R100 to R107): what each does in a state without a bus fight,
and that no sequence of them leads to one (10_state.md R25). -/

namespace Sys2Proof.Machine

/-! ## One primitive in a state without a bus fight -/

theorem busFight_eq_false {s : State} (h : s.dbusDir = .out → s.ramOvr = .asserted) : busFight s = false := by
  cases hd : s.dbusDir with
  | inPullup => simp [busFight, hd]
  | out => simp [busFight, h hd]

theorem owned_of_busFight {s : State} (h : busFight s = false) (hd : s.dbusDir = .out) : s.ramOvr = .asserted := by
  cases hovr : s.ramOvr with
  | asserted => rfl
  | released => simp [busFight, hd, hovr] at h

section
variable {s : State} (hf : busFight s = false) (bus : Byte)
include hf

theorem runOp_pulse (n : Nat) : runOp bus (.pulse n) s = pulse n s := if_neg (by rw [hf]; exact nofun)

theorem runOp_setDataBusOutput (v : Byte) : runOp bus (.setDataBusOutput v) s = setDataBusOutput v s :=
  if_neg (by rw [hf]; exact nofun)

theorem runOp_setDataBusInput : runOp bus .setDataBusInput s = setDataBusInput s := if_neg (by rw [hf]; exact nofun)

theorem runOp_sampleDataBus : runOp bus .sampleDataBus s = sampleDataBus bus s := if_neg (by rw [hf]; exact nofun)

theorem runOp_assertRamOverride : runOp bus .assertRamOverride s = assertRamOverride s :=
  if_neg (by rw [hf]; exact nofun)

theorem runOp_releaseRamOverride : runOp bus .releaseRamOverride s = releaseRamOverride s :=
  if_neg (by rw [hf]; exact nofun)

theorem runOp_assertReset : runOp bus .assertReset s = assertReset s := if_neg (by rw [hf]; exact nofun)

theorem runOp_releaseReset : runOp bus .releaseReset s = releaseReset s := if_neg (by rw [hf]; exact nofun)

end

/-- A state with a bus fight has no successor (U3). -/
theorem runOp_fights {s : State} (hf : busFight s = true) (bus : Byte) (busOp : BusOp) :
    runOp bus busOp s = .fault .busFight := if_pos hf

/-- The pins after `n` pulses. -/
def afterPulses (n : Nat) (s : State) : State :=
  { s with pinTrace := s.pinTrace ++ pulses n, pulseTotal := s.pulseTotal + n }

theorem pulse_low {s : State} (h : s.clk = .low) (n : Nat) : pulse n s = .next (afterPulses n s) := if_pos h

theorem pulse_high {s : State} (h : s.clk = .high) (n : Nat) : pulse n s = .refused .clockNotLow :=
  if_neg (by rw [h]; decide)

/-! ## Pulses add up -/

theorem pulses_add (m n : Nat) : pulses (m + n) = pulses m ++ pulses n := List.replicate_add ..

theorem afterPulses_add (m n : Nat) (s : State) : afterPulses n (afterPulses m s) = afterPulses (m + n) s := by
  simp only [afterPulses, pulses_add, List.append_assoc, Nat.add_assoc]

theorem afterPulses_zero (s : State) : afterPulses 0 s = s := by
  simp [afterPulses, pulses]

/-- Two calls of `pulse` in a row are one call of the sum, also where they stop. -/
theorem runOp_pulse_pulse (bus : Byte) (m n : Nat) (s : State) :
    andThen (runOp bus (.pulse m) s) (runOp bus (.pulse n)) = runOp bus (.pulse (m + n)) s := by
  cases hf : busFight s with
  | true => simp only [runOp_fights hf, andThen_fault]
  | false =>
    rw [runOp_pulse hf, runOp_pulse hf]
    cases hc : s.clk with
    | high => simp only [pulse_high hc, andThen_refused]
    | low =>
      have hf' : busFight (afterPulses m s) = false := hf
      have hc' : (afterPulses m s).clk = .low := hc
      rw [pulse_low hc, andThen_next, runOp_pulse hf', pulse_low hc', afterPulses_add, pulse_low hc]

/-! ## Sequences of primitives -/

/-- A sequence that completes keeps the bus owned. -/
theorem runSchedule_owned {bus : Byte} {schedule : List BusOp} {s t : State} (hs : busFight s = false)
    (h : runSchedule bus schedule s = .next t) : busFight t = false := by
  induction schedule generalizing s with
  | nil =>
    cases h
    exact hs
  | cons busOp rest ih =>
    obtain ⟨u, hu, ht⟩ := andThen_eq_next h
    exact ih (runOp_movesPins hu).stays_owned ht

theorem runSchedule_resetCpu {s : State} (h : AtRest s) (bus : Byte) :
    runSchedule bus scheduleResetCpu s = .next { s with
      rst := .released, pinTrace := s.pinTrace ++ resetEvents, pulseTotal := s.pulseTotal + 8 } := by
  obtain ⟨h1, h2, h3⟩ := h
  cases s
  simp_all [scheduleResetCpu, runSchedule, runOp, busFight, pulse, assertReset, releaseReset, resetEvents, pulses,
    List.replicate, nResetAsserted, nResetReleased]

/-! ## The statements -/

/-- Settles O52: each primitive of a state without a bus fight, by its own `require`. -/
theorem primitiveEffects : Obligations.PrimitiveEffects := by
  unfold Obligations.PrimitiveEffects
  intro bus s howned
  have hf := busFight_eq_false howned
  rw [runOp_setDataBusInput hf, runOp_assertRamOverride hf, runOp_releaseRamOverride hf, runOp_releaseReset hf]
  refine ⟨fun v => ?drive, rfl, fun h => if_neg ?assert, fun ha hb => if_pos ⟨ha, hb⟩, fun h hd => ?release,
    fun hd => ?driving, fun hr hb => if_pos ⟨hr, hb⟩, rfl⟩
  case drive =>
    rw [runOp_setDataBusOutput hf]
    exact ⟨fun h => if_pos h, fun h => if_neg (by rw [h]; decide)⟩
  case assert =>
    rintro ⟨ha, hb⟩
    rcases h with h | h
    · cases h.symm.trans ha
    · exact h hb
  case release =>
    have hr : ¬(s.ramOvr = .released ∧ s.sync = .boundary) := by
      rintro ⟨hr, hb⟩
      rcases h with h | h
      · cases h.symm.trans hr
      · exact h hb
    rw [releaseRamOverride, if_neg hr, if_neg (by rw [hd]; decide)]
  case driving =>
    rw [releaseRamOverride, if_neg (by rw [howned hd]; exact nofun), if_pos hd]

/-- Settles O53: each primitive of a state without a bus fight, by its own `require`; pulses by `runOp_pulse_pulse`. -/
theorem pulseSampleAndReset : Obligations.PulseSampleAndReset := by
  unfold Obligations.PulseSampleAndReset
  intro bus s howned
  have hf := busFight_eq_false howned
  rw [runOp_sampleDataBus hf, runOp_assertReset hf]
  refine ⟨fun n hc => ?low, fun n hc => ?high, fun hc => ?zero, fun m n => ?sum, fun hd => if_pos hd,
    fun hd => if_neg (by rw [hd]; decide), rfl⟩
  case low => exact (runOp_pulse hf bus n).trans (pulse_low hc n)
  case high => rw [runOp_pulse hf, pulse_high hc]
  case zero => rw [runOp_pulse hf, pulse_low hc, afterPulses_zero]
  case sum =>
    rw [← runOp_pulse_pulse, runSchedule]
    congr 1
    funext t
    rw [runSchedule]
    cases runOp bus (.pulse n) t <;> rfl

/-- Settles O54: by induction on the sequence; a fight is `runOp_fights`; each schedule has its lemma. -/
theorem busOwnership : Obligations.BusOwnership := by
  unfold Obligations.BusOwnership
  refine ⟨fun bus schedule s t hs h => ?owned, fun bus busOp s hd hr => ?fight, fun bus s v w h => ?schedules⟩
  case owned => exact owned_of_busFight (runSchedule_owned (busFight_eq_false hs) h)
  case fight => exact runOp_fights (by simp [busFight, hd, hr]) bus busOp
  case schedules =>
    exact ⟨⟨_, runSchedule_resetCpu h bus⟩, ⟨_, runSchedule_ldHlNn h bus w⟩, ⟨_, runSchedule_ldAHl h bus⟩,
      ⟨_, runSchedule_ldHlN h bus v⟩, ⟨_, runSchedule_incHl h bus⟩⟩

end Sys2Proof.Machine
end

section
/-! PROOFS. The sequencer (41_channel_ops.md R110 to R121; 70_reset_and_hazards.md): the whole effect of `resetCpu` and
of each operation in an open session. -/

namespace Sys2Proof.Machine

/-! ## `resetCpu` -/

/-- Settles O42: `resetCpu_atRest`; `dbus_out` is the byte it was. -/
theorem resetCpuEffect : Obligations.ResetCpuEffect := by
  unfold Obligations.ResetCpuEffect
  intro s h
  exact ⟨s.dbusOut, resetCpu_atRest h⟩

theorem clk_of_pulse {bus : Byte} {n : Nat} {s t : State} (h : runOp bus (.pulse n) s = .next t) : s.clk = .low := by
  rw [runOp_pulse (runOp_movesPins h).owned] at h
  cases hc : s.clk with
  | low => rfl
  | high => cases (pulse_high hc n).symm.trans h

/-- The clock is LOW where `resetCpu` completes: its second step is a pulse. -/
theorem clk_of_resetCpu {s t : State} (h : resetCpu s = .next t) : s.clk = .low := by
  unfold resetCpu at h
  split at h
  · cases h
  · split at h
    · cases h
    · obtain ⟨u, hu, -⟩ := andThen_eq_next h
      obtain ⟨s1, h1, hu⟩ := andThen_eq_next hu
      obtain ⟨s2, h2, -⟩ := andThen_eq_next hu
      exact (runOp_movesPins h1).clk.symm.trans (clk_of_pulse h2)

/-- Settles O43: where `resetCpu` completes is an operation boundary, and its effect there is `resetCpu_atRest`. -/
theorem resetCpuLeavesAlone : Obligations.ResetCpuLeavesAlone := by
  unfold Obligations.ResetCpuLeavesAlone
  refine fun s => ⟨fun t ht => ?completes, fun h => ?overridden, fun hr hd => ?fight⟩
  case completes =>
    have hrest := atRest_of_resetCpu (clk_of_resetCpu ht) ht
    cases (resetCpu_atRest hrest).symm.trans ht
    exact ⟨rfl, rfl, rfl, rfl, hrest.2.1, hrest.2.2⟩
  case overridden =>
    rw [resetCpu, if_neg (by simp [busFight, h]), if_pos h]
  case fight => rw [resetCpu, if_pos (by simp [busFight, hr, hd])]

/-! ## The operations in an open session -/

/-- Settles O44: `loadIndexRegister_ready`, the byte driven last being the high one. -/
theorem loadIndexRegisterEffect : Obligations.LoadIndexRegisterEffect := by
  unfold Obligations.LoadIndexRegisterEffect
  intro s v h
  exact ⟨hi8 v, loadIndexRegister_ready h v⟩

/-- Settles O45: `readByte_ready`, the byte driven last being the opcode. -/
theorem readByteEffect : Obligations.ReadByteEffect := by
  unfold Obligations.ReadByteEffect
  intro s a h
  exact ⟨0x7E, readByte_ready h a⟩

theorem writeByte_notLoaded {s : State} (hb : s.sync = .boundary) (hl : s.hlLoaded = false) (a : Word) (v : Byte) :
    writeByte a v s = .refused .cursorNotLoaded := by
  rw [writeByte, if_pos hb, if_pos hl]

theorem writeByte_elsewhere {s : State} {a : Word} (hb : s.sync = .boundary) (hl : s.hlLoaded = true)
    (ha : s.z80HL ≠ a) (v : Byte) : writeByte a v s = .refused .cursorMismatch := by
  rw [writeByte, if_pos hb, if_neg (by rw [hl]; decide), if_pos ha]

/-- Settles O46: two refusals, and the store, whose memory is that of `Memory.write`. -/
theorem writeByteEffect : Obligations.WriteByteEffect := by
  unfold Obligations.WriteByteEffect
  refine fun s a v h => ⟨fun hl => writeByte_notLoaded h.2 hl a v, fun hl ha => writeByte_elsewhere h.2 hl ha v,
    fun hl ha => ?store⟩
  subst ha
  exact ⟨_, 0x23, ⟨Memory.read_write_same _ _ v, fun b hb => Memory.read_write_other _ _ b v hb⟩,
    writeByte_ready h hl v⟩

theorem wordOf_swap (high low : Byte) : swap16 (wordOf high low) = wordOf low high := operandWord_eq high low

/-- Settles O47: `readWord_ready` is two reads, and the words are `wordOf_toNat`. -/
theorem readWordOrder : Obligations.ReadWordOrder := by
  unfold Obligations.ReadWordOrder
  intro s a h
  refine ⟨_, _, readWord_ready h a, wordOf_toNat _ _, ?swap, ?reads, rfl, rfl, rfl, rfl, h⟩
  case swap => rw [wordOf_swap, wordOf_toNat]
  case reads => simp [afterRead]

/-- Two stores in a row need one load of HL. -/
theorem fill_twice {s : State} (h : Ready s) (a : Word) (v0 v1 : Byte) :
    ∃ t, andThen (loadIndexRegister a s) (fun s1 => andThen (writeByte a v0 s1) (writeByte (a + 1) v1)) = .next t ∧
      t.memory.read a.toNat = v0 ∧ t.memory.read (a + 1).toNat = v1 ∧ t.z80HL = a + 2 := by
  have hload := loadIndexRegister_ready h a
  generalize hs1 : effectLdHlNn a _ = s1 at hload
  have hready : Ready s1 := hs1 ▸ h
  obtain ⟨hloaded, hHL⟩ : s1.hlLoaded = true ∧ s1.z80HL = a := by rw [← hs1]; exact ⟨rfl, rfl⟩
  have hwrite0 : writeByte a v0 s1 = .next (afterWrite v0 s1) := hHL ▸ writeByte_eq_afterWrite hready hloaded v0
  have hwrite1 : writeByte (a + 1) v1 (afterWrite v0 s1) = .next (afterWrite v1 (afterWrite v0 s1)) :=
    hHL ▸ writeByte_eq_afterWrite (ready_afterWrite hready v0) hloaded v1
  have hHL' : (afterWrite v0 s1).z80HL = a + 1 := congrArg (· + 1) hHL
  refine ⟨afterWrite v1 (afterWrite v0 s1), ?_, ?_, ?_, ?_⟩
  · rw [hload, andThen_next, hwrite0, andThen_next, hwrite1]
  · rw [read_afterWrite, hHL', if_neg (by simp), read_afterWrite, hHL, if_pos rfl]
  · rw [read_afterWrite, hHL', if_pos rfl]
  · exact (congrArg (· + 1) hHL').trans (BitVec.add_assoc a 1 1)

/-- Settles O49: what each operation leaves in HL; a fill is two stores in a row. -/
theorem implicitCursor : Obligations.ImplicitCursor := by
  unfold Obligations.ImplicitCursor
  refine fun s h => ⟨fun b => ?read, fun b => ?word, fun b => ?decode, fun a v t ht => ?write, fun a v0 v1 => ?fill⟩
  case read =>
    exact ⟨_, readByte_ready h b, rfl, fun a v ha => writeByte_elsewhere (ready_afterRead h b).2 rfl ha v⟩
  case word => exact ⟨_, _, readWord_ready h b, rfl⟩
  case decode =>
    obtain ⟨opcode, text, hnext, -⟩ := disassembleOne_ready h b
    refine ⟨_, hnext, ?_⟩
    simp [decoded, afterReads, List.range_succ]
  case write =>
    obtain ⟨-, rfl, -⟩ := writeByte_eq_next h ht
    exact (writeByte_advances h ht).2.2
  case fill => exact fill_twice h a v0 v1

end Sys2Proof.Machine
end

section
/-! PROOFS. What the machine starts from: canonical memory, the power-on state, the tables and number formats, and
words written out. -/

namespace Sys2Proof.Machine

theorem Memory.wfAbove_cons {lo a : Nat} {v : Byte} {rest : Memory} :
    Memory.wfAbove lo ((a, v) :: rest) = true ↔
      lo ≤ a ∧ a < 0x10000 ∧ v ≠ unlistedByte ∧ Memory.wfAbove (a + 1) rest = true := by
  simp [Memory.wfAbove, and_assoc]

theorem Memory.read_cons_same (a : Nat) (v : Byte) (rest : Memory) : Memory.read ((a, v) :: rest) a = v := by
  simp [Memory.read]

theorem Memory.read_cons_other {a b : Nat} (h : b ≠ a) (v : Byte) (rest : Memory) :
    Memory.read ((a, v) :: rest) b = rest.read b := by
  simp [Memory.read, h]

theorem Memory.read_of_lt {lo a : Nat} {m : Memory} (hm : Memory.wfAbove lo m = true) (ha : a < lo) :
    m.read a = unlistedByte := by
  induction m generalizing lo with
  | nil => rfl
  | cons c rest ih =>
    obtain ⟨b, v⟩ := c
    obtain ⟨hb, -, -, hrest⟩ := Memory.wfAbove_cons.mp hm
    rw [Memory.read_cons_other (by omega)]
    exact ih hrest (by omega)

/-- The first address listed reads as listed, so no list that starts above it reads alike. -/
theorem Memory.head_not_above {lo a : Nat} {v : Byte} {rest n : Memory}
    (hm : Memory.wfAbove lo ((a, v) :: rest) = true) (hn : Memory.wfAbove (a + 1) n = true)
    (h : ∀ b, Memory.read ((a, v) :: rest) b = n.read b) : False := by
  obtain ⟨-, -, hv, -⟩ := Memory.wfAbove_cons.mp hm
  exact hv (by rw [← Memory.read_cons_same a v rest, h a, Memory.read_of_lt hn (Nat.lt_succ_self a)])

theorem Memory.eq_of_wfAbove {lo : Nat} {m n : Memory} (hm : Memory.wfAbove lo m = true)
    (hn : Memory.wfAbove lo n = true) (h : ∀ a, m.read a = n.read a) : m = n := by
  induction m generalizing lo n with
  | nil =>
    cases n with
    | nil => rfl
    | cons d ns => exact (Memory.head_not_above (rest := ns) (n := []) hn rfl fun b => (h b).symm).elim
  | cons c ms ih =>
    obtain ⟨a, v⟩ := c
    obtain ⟨hlo, hlt, hv, hms⟩ := Memory.wfAbove_cons.mp hm
    cases n with
    | nil => exact (Memory.head_not_above (n := []) hm rfl h).elim
    | cons d ns =>
      obtain ⟨b, w⟩ := d
      obtain ⟨-, hlt', hw, hns⟩ := Memory.wfAbove_cons.mp hn
      rcases Nat.lt_trichotomy a b with hab | rfl | hab
      · exact (Memory.head_not_above hm (Memory.wfAbove_cons.mpr ⟨hab, hlt', hw, hns⟩) h).elim
      · have hvw : v = w := by simpa [Memory.read_cons_same] using h a
        have htail : ∀ x, Memory.read ms x = Memory.read ns x := by
          intro x
          by_cases hx : x = a
          · rw [Memory.read_of_lt hms (by omega), Memory.read_of_lt hns (by omega)]
          · simpa [Memory.read_cons_other hx] using h x
        rw [hvw, ih hms hns htail]
      · exact (Memory.head_not_above hn (Memory.wfAbove_cons.mpr ⟨hab, hlt, hv, hms⟩) fun x => (h x).symm).elim

theorem Memory.read_write (m : Memory) (a b : Nat) (v : Byte) :
    (m.write a v).read b = if b = a then v else m.read b := by
  split
  · next h => exact h ▸ m.read_write_same a v
  · next h => exact m.read_write_other a b v h

/-- Settles O58: canonical lists are equal from the lowest address up; the two write laws are the memory's own. -/
theorem memoryIsCanonical : Obligations.MemoryIsCanonical := by
  unfold Obligations.MemoryIsCanonical
  exact ⟨fun m n hm hn => Memory.eq_of_wfAbove hm hn, Memory.read_write, fun m a v hm ha => Memory.wf_write hm ha v⟩

theorem stateInv_powerOn {ram : Memory} (hram : ram.wf = true) : StateInv (State.powerOn ram) where
  memory_wf := hram
  clk_low := rfl
  bus_owned := nofun
  boundary_place := nofun
  boundary_rest := nofun
  pulses_counted := rfl
  override_paired := nofun
  returned_ok := nofun
  place_ok := trivial
  write_undriven := nofun

/-- Settles O24: at power-on no session is open and the pins are at rest. -/
theorem powerOnInvariant : Obligations.PowerOnInvariant := by
  unfold Obligations.PowerOnInvariant
  exact ⟨fun _ hram => stateInv_powerOn hram, stateInv_powerOn rfl⟩

/-- Settles O23: each value is a field of the power-on record. -/
theorem powerOnState : Obligations.PowerOnState := by
  unfold Obligations.PowerOnState
  exact ⟨fun _ => ⟨rfl, rfl, rfl, rfl, rfl, rfl, rfl, rfl, rfl⟩, rfl⟩

theorem hexDigit_mem : ∀ d < 16, hexDigit d ∈ "0123456789ABCDEF".toList := by decide

theorem hexDigit_injective : ∀ d < 16, ∀ e < 16, hexDigit d = hexDigit e → d = e := by decide

theorem hex2_mem (v : Byte) : ∀ c ∈ hex2 v, c ∈ "0123456789ABCDEF".toList := by
  have hv := v.isLt
  simp only [hex2, List.forall_mem_cons, List.not_mem_nil, false_implies, implies_true, and_true]
  exact ⟨hexDigit_mem _ (by omega), hexDigit_mem _ (by omega)⟩

/-- The two digits are the high and the low nibble, so they determine the byte. -/
theorem hex2_injective {v w : Byte} (h : hex2 v = hex2 w) : v = w := by
  have hv := v.isLt
  have hw := w.isLt
  simp only [hex2, List.cons.injEq, and_true] at h
  obtain ⟨hhigh, hlow⟩ := h
  have hhigh := hexDigit_injective _ (by omega) _ (by omega) hhigh
  have hlow := hexDigit_injective _ (by omega) _ (by omega) hlow
  exact BitVec.eq_of_toNat_eq (by omega)

/-- Settles O26: the tables evaluate to their entries; the digits are `hex2_mem` and `hex2_injective`. -/
theorem tableEntries : Obligations.TableEntries := by
  unfold Obligations.TableEntries
  refine ⟨?tables, fun v => ⟨rfl, hex2_mem v⟩, fun v w => hex2_injective, by decide⟩
  case tables => decide

/-- Settles O27: the decoder run on each word. -/
theorem sampleWordsDecode : Obligations.SampleWordsDecode := by
  unfold Obligations.SampleWordsDecode
  exact ⟨rfl, rfl, rfl, rfl, rfl, rfl, rfl, rfl, rfl, rfl, rfl, rfl, rfl, rfl, rfl, rfl, rfl, rfl, rfl, rfl⟩

end Sys2Proof.Machine
end

section
/-! PROOFS. What the operations of the channel cost and count: their pulses, override pairs and drives
(41_channel_ops.md section 3), the opcode fetches R counts (70_reset_and_hazards.md section 3), and that desynced they
complete all the same (93_implementation_defined.md U1). -/

namespace Sys2Proof.Machine

/-! ## Desynced -/

theorem readWord_desynced {s : State} (h : Desynced s) (a : Word) :
    readWord a s = .next (wordOf (Config.freeByte (s.freeTick + 1)) (Config.freeByte (s.freeTick + 2 + 1)),
      afterReadDesynced (a + 1) (afterReadDesynced a s)) := by
  rw [readWord, readByte_desynced h, andThen_next, readByte_desynced (desynced_afterReadDesynced h a), andThen_next]
  rfl

theorem writeByte_desynced {s : State} (h : Desynced s) (a : Word) (v : Byte) :
    writeByte a v s = storeAndAdvance v s := if_neg h.2.2

/-- Settles O51: each operation from its desynced law; a decode is one `present`, whose return meets the contract. -/
theorem desyncedOperationsComplete : Obligations.DesyncedOperationsComplete := by
  unfold Obligations.DesyncedOperationsComplete
  refine fun s h => ⟨fun v => ?load, fun a => ?read, fun a => ?word, fun a v => ?write, fun a => ?decode⟩
  case load => exact ⟨_, loadIndexRegister_desynced h v, ⟨h.1, rfl, rfl⟩, rfl, rfl, rfl⟩
  case read => exact ⟨_, _, readByte_desynced h a, ⟨h.1, rfl, rfl⟩, rfl, rfl, rfl⟩
  case word => exact ⟨_, _, _, readWord_desynced h a, ⟨h.1, rfl, rfl⟩, rfl, rfl, rfl⟩
  case write =>
    exact ⟨_, (writeByte_desynced h a v).trans (storeAndAdvance_desynced h v), ⟨h.1, rfl, rfl⟩, rfl, rfl, rfl⟩
  case decode =>
    have ha : Desynced { s with pc := a } := h
    obtain ⟨pfx, opcode, text, len, reads, hexec, hreads, hok⟩ := fetchInstr_meetsContract { s with pc := a }
    obtain ⟨t, ht, hrest, hsync, -, -, -, -, hpulses, -, -, -, hpc, hret, -⟩ :=
      present_desynced ha pfx opcode text len (reads + 1) (Nat.succ_ne_zero reads)
    exact ⟨t, _, reads + 1, (hexec _).trans ht, hrest, hsync, hpulses, Nat.le_add_left 1 reads,
      Nat.succ_le_succ hreads, hret, hok _, hpc, hpc.symm⟩

/-! ## The opcode fetches R counts -/

theorem advanceR_mod (n : Nat) (r : Byte) : (advanceR n r).toNat % 128 = (r.toNat + n) % 128 := by
  have := r.isLt
  simp only [advanceR, BitVec.toNat_ofNat]
  omega

theorem advanceR_div (n : Nat) (r : Byte) : (advanceR n r).toNat / 128 = r.toNat / 128 := by
  have := r.isLt
  simp only [advanceR, BitVec.toNat_ofNat]
  omega

theorem fetched_of_advanceR {s t : State} {n : Nat} (hR : t.z80R = advanceR n s.z80R) (hF : t.z80F = s.z80F)
    (hEnable : t.z80IntEnable = s.z80IntEnable) (hMode : t.z80IntMode = s.z80IntMode) : Fetched n s t :=
  ⟨hR ▸ advanceR_mod n s.z80R, hR ▸ advanceR_div n s.z80R, hF, hEnable, hMode⟩

theorem decoded_z80R {reads : Nat} (hr : 1 ≤ reads) (pfx : PrefixClass) (opcode : Byte) (text : Text) (len : Nat)
    (s : State) : (decoded pfx opcode text len reads s).z80R = advanceR (2 * reads) s.z80R := by
  rw [decoded, afterReads, Nat.sub_add_cancel hr]

theorem length_decoded_readTrace {reads : Nat} (hr : 1 ≤ reads) (pfx : PrefixClass) (opcode : Byte) (text : Text)
    (len : Nat) (s : State) :
    (decoded pfx opcode text len reads s).readTrace.length = s.readTrace.length + reads := by
  simp [decoded, afterReads, Nat.sub_add_cancel hr]

/-- Settles O60: what each operation leaves has R advanced by its fetches, and F and the interrupt state of before. -/
theorem forcedInstructionsKeepFlags : Obligations.ForcedInstructionsKeepFlags := by
  unfold Obligations.ForcedInstructionsKeepFlags
  refine fun s h => ⟨fun v => ?load, fun a => ?read, fun a => ?word, fun a v hl ha => ?write, fun A => ?decode⟩
  case load => exact ⟨_, loadIndexRegister_ready h v, fetched_of_advanceR rfl rfl rfl rfl⟩
  case read => exact ⟨_, _, readByte_ready h a, fetched_of_advanceR rfl rfl rfl rfl⟩
  case word => exact ⟨_, _, readWord_ready h a, fetched_of_advanceR (advanceR_advanceR 2 2 s.z80R) rfl rfl rfl⟩
  case write => exact ⟨afterWrite v s, ha ▸ writeByte_eq_afterWrite h hl v, fetched_of_advanceR rfl rfl rfl rfl⟩
  case decode =>
    obtain ⟨opcode, text, hnext, -⟩ := disassembleOne_ready h A
    have hpos := readsOf_pos (s.memory.read A.toNat) (s.memory.read (A + 1).toNat)
    exact ⟨_, _, hnext, length_decoded_readTrace hpos .., hpos, readsOf_le_four _ _,
      fetched_of_advanceR (decoded_z80R hpos ..) rfl rfl rfl⟩

/-! ## What the operations cost -/

/-- Costs are a matter of the pulse total and the pin trace alone. -/
theorem costs_of_events {s t : State} {events : List PinEvent} {pulses pairs : Nat} {drives : List Byte}
    (htotal : t.pulseTotal = s.pulseTotal + pulses) (htrace : t.pinTrace = s.pinTrace ++ events)
    (hpulses : events.count .pulse = pulses) (hasserts : events.count .ovrAssert = pairs)
    (hreleases : events.count .ovrRelease = pairs) (hdrives : events.filterMap PinEvent.driven = drives) :
    Costs pulses pairs drives s t :=
  ⟨htotal, events, htrace, hpulses, hasserts, hreleases, hdrives⟩

theorem Costs.trans {s t u : State} {p p' q q' : Nat} {d d' : List Byte} (h : Costs p q d s t)
    (g : Costs p' q' d' t u) :
    Costs (p + p') (q + q') (d ++ d') s u := by
  obtain ⟨htotal, events, htrace, rfl, rfl, hreleases, rfl⟩ := h
  obtain ⟨htotal', events', htrace', rfl, rfl, hreleases', rfl⟩ := g
  refine ⟨?_, events ++ events', ?_, List.count_append, List.count_append, ?_, List.filterMap_append⟩
  · rw [htotal', htotal, Nat.add_assoc]
  · rw [htrace', htrace, List.append_assoc]
  · rw [List.count_append, hreleases, hreleases']

section Events

variable {s t : State}

theorem costs_resetEvents (hp : t.pulseTotal = s.pulseTotal + 8) (ht : t.pinTrace = s.pinTrace ++ resetEvents) :
    Costs 8 0 [] s t :=
  costs_of_events hp ht count_pulse_resetEvents count_ovrAssert_resetEvents count_ovrRelease_resetEvents
    driven_resetEvents

theorem costs_loadEvents {v : Word} (hp : t.pulseTotal = s.pulseTotal + 10)
    (ht : t.pinTrace = s.pinTrace ++ loadEvents v) : Costs 10 1 [0x21, lo8 v, hi8 v] s t :=
  costs_of_events hp ht (count_pulse_loadEvents v) (count_ovrAssert_loadEvents v) (count_ovrRelease_loadEvents v)
    (driven_loadEvents v)

theorem costs_ldAHlEvents {v : Byte} (hp : t.pulseTotal = s.pulseTotal + 7)
    (ht : t.pinTrace = s.pinTrace ++ ldAHlEvents v) : Costs 7 1 [0x7E] s t :=
  costs_of_events hp ht (count_pulse_ldAHlEvents v) (count_ovrAssert_ldAHlEvents v)
    (count_ovrRelease_ldAHlEvents v) (driven_ldAHlEvents v)

theorem costs_ldHlNEvents {v : Byte} (hp : t.pulseTotal = s.pulseTotal + 10)
    (ht : t.pinTrace = s.pinTrace ++ ldHlNEvents v) : Costs 10 1 [0x36, v] s t :=
  costs_of_events hp ht (count_pulse_ldHlNEvents v) (count_ovrAssert_ldHlNEvents v)
    (count_ovrRelease_ldHlNEvents v) (driven_ldHlNEvents v)

theorem costs_incHlEvents (hp : t.pulseTotal = s.pulseTotal + 6) (ht : t.pinTrace = s.pinTrace ++ incHlEvents) :
    Costs 6 1 [0x23] s t :=
  costs_of_events hp ht count_pulse_incHlEvents count_ovrAssert_incHlEvents count_ovrRelease_incHlEvents
    driven_incHlEvents

theorem costs_writeEvents {v : Byte} (hp : t.pulseTotal = s.pulseTotal + 16)
    (ht : t.pinTrace = s.pinTrace ++ writeEvents v) : Costs 16 2 [0x36, v, 0x23] s t :=
  costs_of_events hp ht (count_pulse_writeEvents v) (count_ovrAssert_writeEvents v)
    (count_ovrRelease_writeEvents v) (driven_writeEvents v)

end Events

theorem costs_afterRead (a : Word) (s : State) : Costs 17 2 [0x21, lo8 a, hi8 a, 0x7E] s (afterRead a s) :=
  costs_of_events rfl rfl (count_pulse_readEvents a _) (count_ovrAssert_readEvents a _)
    (count_ovrRelease_readEvents a _) (driven_readEvents a _)

theorem driven_readsEvents (s : State) (n : Nat) : (readsEvents s n).filterMap PinEvent.driven =
    (List.range n).flatMap fun k =>
      [0x21, lo8 (s.pc + BitVec.ofNat 16 k), hi8 (s.pc + BitVec.ofNat 16 k), 0x7E] := by
  simp [readsEvents, List.filterMap_flatMap]

theorem costs_decoded {reads : Nat} (hr : 1 ≤ reads) (pfx : PrefixClass) (opcode : Byte) (text : Text) (len : Nat)
    (s : State) : Costs (17 * reads) (2 * reads) ((List.range reads).flatMap fun k =>
      [0x21, lo8 (s.pc + BitVec.ofNat 16 k), hi8 (s.pc + BitVec.ofNat 16 k), 0x7E])
      s (decoded pfx opcode text len reads s) := by
  obtain ⟨hpulses, hasserts, hreleases, -⟩ := traced_reads reads (fun k => s.pc + BitVec.ofNat 16 k) (targetByte s)
  refine costs_of_events (decoded_pulseTotal hr ..) ?trace hpulses hasserts hreleases (driven_readsEvents s reads)
  case trace => simp only [decoded, afterReads, Nat.sub_add_cancel hr, readsEvents]

/-- Settles O56: each schedule and operation leaves its events, whose counts are their lemmas. -/
theorem pulseTotals : Obligations.PulseTotals := by
  unfold Obligations.PulseTotals
  refine ⟨fun bus s h => ⟨?reset, fun v => ?loadHl, ?loadA, fun v => ?store, ?inc, ?resetCpu⟩,
    fun s h => ⟨fun v => ?load, fun a => ?read, fun a => ?word, fun a v hl ha => ?write, fun A => ?decode⟩,
    rfl, rfl, rfl, rfl, rfl, rfl⟩
  case reset => exact ⟨_, runSchedule_resetCpu h bus, costs_resetEvents rfl rfl⟩
  case loadHl => exact ⟨_, runSchedule_ldHlNn h bus v, costs_loadEvents rfl rfl⟩
  case loadA => exact ⟨_, runSchedule_ldAHl h bus, costs_ldAHlEvents rfl rfl⟩
  case store => exact ⟨_, runSchedule_ldHlN h bus v, costs_ldHlNEvents rfl rfl⟩
  case inc => exact ⟨_, runSchedule_incHl h bus, costs_incHlEvents rfl rfl⟩
  case resetCpu => exact ⟨_, resetCpu_atRest h, costs_resetEvents rfl rfl⟩
  case load => exact ⟨_, loadIndexRegister_ready h v, costs_loadEvents rfl rfl⟩
  case read => exact ⟨_, _, readByte_ready h a, costs_afterRead a s⟩
  case word => exact ⟨_, _, readWord_ready h a, (costs_afterRead a s).trans (costs_afterRead (a + 1) _)⟩
  case write => exact ⟨afterWrite v s, ha ▸ writeByte_eq_afterWrite h hl v, costs_writeEvents rfl rfl⟩
  case decode =>
    obtain ⟨opcode, text, hnext, -⟩ := disassembleOne_ready h A
    have hpos := readsOf_pos (s.memory.read A.toNat) (s.memory.read (A + 1).toNat)
    exact ⟨_, _, _, hnext, rfl, readsOf_eq _ _, costs_decoded hpos ..⟩

end Sys2Proof.Machine
end

section
/-! PROOFS. The schedules against the machine-cycle contract (41_channel_ops.md R115): each forced instruction, run
T-state by T-state from a Boundary, has its net effect R116 to R119, and reads compose. -/

namespace Sys2Proof.Machine

/-- The T-state machine of a state at a Boundary, once the controller has driven `driven` last and taken `sampled`. -/
def ofStateAfter (s : State) (driven : Byte) (sampled : List Byte) : TState.CycleState :=
  { TState.ofState s with dbusOut := driven, sampled := sampled }

/-- The T-state machine after the opening that the four schedules share, which forces `opcode` on the Z80's fetch. -/
def afterForcedFetch (s : State) (opcode : Byte) (sampled : List Byte) : TState.CycleState :=
  { ofStateAfter s opcode sampled with
    ramOvr := .asserted
    phase := TState.afterOpcode opcode
    z80pc := s.z80PC + 1
    r := advanceR 1 s.z80R }

section Schedules

variable {s : State} (h : Ready s) (d : Byte) (l : List Byte)
include h

/-- The Z80 takes the byte driven in the third T-state of its fetch. -/
theorem tstates_forcedFetch (opcode : Byte) (rest : List BusOp) :
    TState.runSchedule (.pulse 1 :: .assertRamOverride :: .setDataBusOutput opcode :: .pulse 2 :: .setDataBusInput ::
      rest) (ofStateAfter s d l) = TState.runSchedule rest (afterForcedFetch s opcode l) := by
  obtain ⟨⟨-, hovr, hdir⟩, -⟩ := h
  simp [TState.runSchedule, TState.runOp, TState.ticks, TState.tick, TState.fights, TState.busByte,
    TState.inWriteCycle, ofStateAfter, TState.ofState, afterForcedFetch, hovr, hdir]
  rfl

theorem tstates_ldHlNn (v : Word) : TState.runSchedule (scheduleLdHlNn v) (ofStateAfter s d l) =
    ofStateAfter (effectLdHlNn v s) (hi8 v) l := by
  rw [scheduleLdHlNn, tstates_forcedFetch h]
  obtain ⟨⟨-, hovr, hdir⟩, -⟩ := h
  simp [TState.runSchedule, TState.runOp, TState.ticks, TState.tick, TState.fights, TState.busByte,
    TState.inWriteCycle, TState.afterOpcode, TState.afterFetch, TState.afterOperand, opcLdHlNn, opcLdAHl, opcIncHl,
    ofStateAfter, TState.ofState, afterForcedFetch, effectLdHlNn, hovr, hdir, BitVec.add_assoc]

theorem tstates_ldAHl : TState.runSchedule scheduleLdAHl (ofStateAfter s d l) =
    ofStateAfter (effectLdAHl s) 0x7E (l ++ [s.memory.read s.z80HL.toNat]) := by
  rw [scheduleLdAHl, tstates_forcedFetch h]
  obtain ⟨⟨-, hovr, hdir⟩, -⟩ := h
  simp [TState.runSchedule, TState.runOp, TState.ticks, TState.tick, TState.fights, TState.busByte,
    TState.readRequest, TState.inWriteCycle, TState.afterOpcode, TState.afterFetch, opcLdHlNn, opcLdAHl, opcIncHl,
    ofStateAfter, TState.ofState, afterForcedFetch, effectLdAHl, hovr, hdir]

theorem tstates_ldHlN (v : Byte) : TState.runSchedule (scheduleLdHlN v) (ofStateAfter s d l) =
    ofStateAfter (effectLdHlN v s) v l := by
  rw [scheduleLdHlN, tstates_forcedFetch h]
  obtain ⟨⟨-, hovr, hdir⟩, -⟩ := h
  simp [TState.runSchedule, TState.runOp, TState.ticks, TState.tick, TState.fights, TState.busByte,
    TState.inWriteCycle, TState.afterOpcode, TState.afterFetch, TState.afterOperand, opcLdHlNn, opcLdAHl, opcLdHlN,
    opcIncHl, ofStateAfter, TState.ofState, afterForcedFetch, effectLdHlN, hovr, hdir, BitVec.add_assoc]

theorem tstates_incHl : TState.runSchedule scheduleIncHl (ofStateAfter s d l) =
    ofStateAfter (effectIncHl s) 0x23 l := by
  rw [scheduleIncHl, tstates_forcedFetch h]
  obtain ⟨⟨-, hovr, hdir⟩, -⟩ := h
  simp [TState.runSchedule, TState.runOp, TState.ticks, TState.tick, TState.fights, TState.inWriteCycle,
    TState.afterOpcode, TState.afterFetch, opcIncHl, ofStateAfter, TState.ofState, afterForcedFetch, effectIncHl, hovr,
    hdir]

end Schedules

theorem tstates_append (first rest : List BusOp) (m : TState.CycleState) :
    TState.runSchedule (first ++ rest) m = TState.runSchedule rest (TState.runSchedule first m) := by
  induction first generalizing m with
  | nil => rfl
  | cons o first ih => exact ih (TState.runOp o m)

/-- One `readByte` on the T-state machine samples the byte and leaves the machine of `afterRead`. -/
theorem tstates_read {s : State} (h : Ready s) (d : Byte) (l : List Byte) (a : Word) :
    TState.runSchedule (scheduleLdHlNn a ++ scheduleLdAHl) (ofStateAfter s d l) =
      ofStateAfter (afterRead a s) 0x7E (l ++ [s.memory.read a.toNat]) := by
  have hload : Ready (effectLdHlNn a s) := h
  rw [tstates_append, tstates_ldHlNn h, tstates_ldAHl hload]
  simp [ofStateAfter, TState.ofState, effectLdAHl, effectLdHlNn, afterRead, BitVec.add_assoc]

theorem tstates_reads (n : Nat) {s : State} (h : Ready s) (d : Byte) (l : List Byte) (a : Word) :
    ∃ bytes t d', readBytes n a s = .next (bytes, t) ∧
      TState.runSchedule (TState.readsSchedule n a) (ofStateAfter s d l) = ofStateAfter t d' (l ++ bytes) := by
  induction n generalizing s d l a with
  | zero => exact ⟨[], s, d, rfl, by rw [List.append_nil]; rfl⟩
  | succ n ih =>
    obtain ⟨bytes, t, d', hbytes, hrun⟩ := ih (ready_afterRead h a) 0x7E (l ++ [s.memory.read a.toNat]) (a + 1)
    refine ⟨s.memory.read a.toNat :: bytes, t, d', ?_, ?_⟩
    · rw [readBytes, readByte_ready h, andThen_next, hbytes, andThen_next]
    · rw [TState.readsSchedule, tstates_append, tstates_read h, hrun, List.append_assoc, List.singleton_append]

/-- Settles O57: each schedule from the machine of the state itself, nothing sampled yet. -/
theorem schedulesRefineTStates : Obligations.SchedulesRefineTStates := by
  unfold Obligations.SchedulesRefineTStates
  exact fun s h => ⟨fun v => ⟨_, tstates_ldHlNn h s.dbusOut [] v⟩, ⟨_, tstates_ldAHl h s.dbusOut []⟩,
    fun v => ⟨_, tstates_ldHlN h s.dbusOut [] v⟩, ⟨_, tstates_incHl h s.dbusOut []⟩,
    fun n a => tstates_reads n h s.dbusOut [] a⟩

end Sys2Proof.Machine
end

section
/-! PROOFS. A decode of what stands in memory (49_disassembler.md R361 to R366): the bytes its reads return, where it
completes and where it stops, its frame, and the steps that run one (60_exceptions.md R384). -/

namespace Sys2Proof.Machine

/-! ## The bytes read -/

/-- Settles O33: both laws of a run of reads give the bytes as `fetchedByte` of the state before it. -/
theorem readsReturnTheDecodedBytes : Obligations.ReadsReturnTheDecodedBytes := by
  unfold Obligations.ReadsReturnTheDecodedBytes
  rintro s n (h | h)
  · have hf : fetchedByte s = targetByte s := funext (fetchedByte_ready h s.pc)
    cases n with
    | zero => exact ⟨s, rfl, (List.append_nil _).symm⟩
    | succ n => exact ⟨_, hf ▸ readBytes_ready h n, rfl⟩
  · have hf : fetchedByte s = fun k => Config.freeByte (s.freeTick + 2 * k + 1) := funext fun k => if_neg h.2.2
    obtain ⟨t, ht, -, -, -, -, -, -, -, -, -, -, htrace, -⟩ := readBytes_desynced n h s.pc
    exact ⟨t, hf ▸ ht, htrace⟩

/-! ## Where a decode completes and where it stops -/

theorem exec_completes {s : State} (h : Ready s ∨ Desynced s) (i : Instr) : ∃ t, exec i s = .next t := by
  obtain ⟨pfx, opcode, text, len, reads, hexec, -⟩ := exec_isDecode i
  rw [hexec]
  rcases h with h | h
  · exact ⟨_, present_ready h pfx opcode text len reads⟩
  · obtain ⟨t, ht, -⟩ := present_desynced h pfx opcode text len (reads + 1) (Nat.succ_ne_zero reads)
    exact ⟨t, ht⟩

theorem Advances.atRest {s t : State} (h : Advances s t) (hc : s.clk = .low) : AtRest t :=
  ⟨h.clk.trans hc, h.ramOvr, h.dbusDir⟩

/-- A decode stops where its first forced instruction does. -/
theorem exec_fault {s : State} {f : Fault} (h : ∀ v, loadIndexRegister v s = .fault f) (i : Instr) :
    exec i s = .fault f := by
  obtain ⟨pfx, opcode, text, len, reads, hexec, -⟩ := exec_isDecode i
  rw [hexec, present, readBytes, readByte, h, andThen_fault, andThen_fault, andThen_fault]

/-- The same for a refusal. -/
theorem exec_refused {s : State} {r : Refusal} (h : ∀ v, loadIndexRegister v s = .refused r) (i : Instr) :
    exec i s = .refused r := by
  obtain ⟨pfx, opcode, text, len, reads, hexec, -⟩ := exec_isDecode i
  rw [hexec, present, readBytes, readByte, h, andThen_refused, andThen_refused, andThen_refused]

theorem loadIndexRegister_busFight {s : State} (h : busFight s = true) (v : Word) :
    loadIndexRegister v s = .fault .busFight := by
  rw [loadIndexRegister, forcedInstruction, scheduleLdHlNn, runSchedule, runOp_fights h]
  rfl

theorem loadIndexRegister_clockHigh {s : State} (h : busFight s = false) (hc : s.clk = .high) (v : Word) :
    loadIndexRegister v s = .refused .clockNotLow := by
  rw [loadIndexRegister, forcedInstruction, scheduleLdHlNn, runSchedule, runOp_pulse h, pulse_high hc]
  rfl

theorem loadIndexRegister_overridden {s : State} (hc : s.clk = .low) (ho : s.ramOvr = .asserted)
    (hb : s.sync = .boundary) (v : Word) : loadIndexRegister v s = .refused .overrideAlreadyAsserted :=
  forcedInstruction_overridden hc ho hb ..

/-- A decode that gives a next state began in a session or desynced: elsewhere its first read stops. -/
theorem ready_or_desynced_of_exec {s t : State} {i : Instr} (ht : exec i s = .next t) : Ready s ∨ Desynced s := by
  have hfight : busFight s = false := by
    by_contra hf
    cases (exec_fault (loadIndexRegister_busFight (Bool.eq_true_of_not_eq_false hf)) i).symm.trans ht
  have hclk : s.clk = .low := by
    cases hc : s.clk with
    | low => rfl
    | high => cases (exec_refused (loadIndexRegister_clockHigh hfight hc) i).symm.trans ht
  have howned := owned_of_busFight hfight
  by_cases hb : s.sync = .boundary
  · have hovr : s.ramOvr = .released := by
      cases ho : s.ramOvr with
      | released => rfl
      | asserted => cases (exec_refused (loadIndexRegister_overridden hclk ho hb) i).symm.trans ht
    have hdir : s.dbusDir = .inPullup := by
      cases hd : s.dbusDir with
      | inPullup => rfl
      | out => cases hovr.symm.trans (howned hd)
    exact .inl ⟨⟨hclk, hovr, hdir⟩, hb⟩
  · exact .inr ⟨hclk, howned, hb⟩

/-- Settles O39: it completes from where its reads do; its first forced instruction stops on each of the three. -/
theorem whenADecodeStops : Obligations.WhenADecodeStops := by
  unfold Obligations.WhenADecodeStops
  refine fun i s => ⟨fun h => ?completes, fun hd hr => ?fight, fun hf hc => ?high, fun hc ho hb => ?overridden⟩
  case completes =>
    obtain ⟨t, ht⟩ := exec_completes h i
    exact ⟨t, ht, (exec_advances h ht).atRest (h.elim (·.1.1) (·.1))⟩
  case fight => exact exec_fault (loadIndexRegister_busFight (by simp [busFight, hd, hr])) i
  case high => exact exec_refused (loadIndexRegister_clockHigh (by simpa [busFight] using hf) hc) i
  case overridden => exact exec_refused (loadIndexRegister_overridden hc ho hb) i

/-! ## The frame -/

/-- What a decode leaves beside what `Advances` says. -/
theorem exec_frame {s t : State} {i : Instr} (h : Ready s ∨ Desynced s) (ht : exec i s = .next t) :
    t.calls = s.calls ∧ s.readTrace <+: t.readTrace ∧ (s.sync ≠ .boundary → t.hlLoaded = s.hlLoaded) := by
  obtain ⟨pfx, opcode, text, len, reads, hexec, -⟩ := exec_isDecode i
  rw [hexec] at ht
  rcases h with h | h
  · cases (present_ready h pfx opcode text len reads).symm.trans ht
    exact ⟨rfl, ⟨_, rfl⟩, fun hb => absurd h.2 hb⟩
  · obtain ⟨t', ht', -, -, -, hcalls, hloaded, -, -, hreads, -⟩ :=
      present_desynced h pfx opcode text len (reads + 1) (Nat.succ_ne_zero reads)
    cases ht'.symm.trans ht
    exact ⟨hcalls, ⟨_, hreads.symm⟩, fun _ => hloaded⟩

/-- Settles O40: `Advances` and `exec_frame`, and in a session the state written out. -/
theorem decodeFrame : Obligations.DecodeFrame := by
  unfold Obligations.DecodeFrame
  intro i s t ht
  have h := ready_or_desynced_of_exec ht
  have hadv := exec_advances h ht
  obtain ⟨hcalls, hreads, hloaded⟩ := exec_frame h ht
  obtain ⟨events, htrace, -⟩ := hadv.traced
  refine ⟨hadv.clk, hadv.rst, hadv.ramOvr, hadv.dbusDir, hadv.sync, hcalls, ⟨events, htrace.symm⟩, hreads, ?session,
    hloaded⟩
  case session =>
    intro hb
    have hready : Ready s := h.resolve_right fun hd => hd.2.2 hb
    obtain ⟨pfx, opcode, text, len, reads, hnext⟩ := exec_ready hready i
    cases hnext.symm.trans ht
    exact ⟨hready.1.2.1, hready.1.2.2, fun _ => rfl, rfl, rfl, rfl, rfl, rfl, rfl, rfl⟩

/-! ## The instruction at the cursor -/

theorem fetchInstr_of_decodeBytes {s : State} {i : Instr} {rest : List Byte} (hb : s.sync = .boundary)
    (h : decodeBytes [targetByte s 0, targetByte s 1, targetByte s 2, targetByte s 3] = .ok (i, rest)) :
    fetchInstr s = i := by
  have hf : fetchedByte s = targetByte s := funext fun _ => if_pos hb
  obtain ⟨-, rfl, -⟩ := decodeBytes_eq_ok h
  rw [fetchInstr, hf]
  rfl

/-! ## Bytes placed at the cursor -/

theorem add_one_add_ofNat (address : Word) (k : Nat) :
    address + 1 + BitVec.ofNat 16 k = address + BitVec.ofNat 16 (k + 1) := by
  rw [BitVec.add_assoc, Nat.add_comm k 1, BitVec.ofNat_add]
  rfl

theorem read_placeBytes_other {bs : List Byte} {x : Nat} {address : Word} (m : Memory)
    (h : ∀ k, k < bs.length → x ≠ (address + BitVec.ofNat 16 k).toNat) :
    (placeBytes bs address m).read x = m.read x := by
  induction bs generalizing address m with
  | nil => rfl
  | cons b rest ih =>
    have h0 : x ≠ address.toNat := by simpa using h 0 (Nat.zero_lt_succ _)
    have hrest : ∀ k, k < rest.length → x ≠ (address + 1 + BitVec.ofNat 16 k).toNat := by
      intro k hk
      rw [add_one_add_ofNat]
      exact h (k + 1) (Nat.succ_lt_succ hk)
    rw [placeBytes, ih _ hrest, Memory.read_write_other _ _ _ _ h0]

/-- Bytes placed are read back, as long as they do not wrap around the address space. -/
theorem read_placeBytes {bs : List Byte} {k : Nat} (hk : k < bs.length) (hbs : bs.length ≤ 0x10000) (address : Word)
    (m : Memory) : (placeBytes bs address m).read (address + BitVec.ofNat 16 k).toNat = byteAt bs k := by
  induction bs generalizing address m k with
  | nil => cases hk
  | cons b rest ih =>
    rw [List.length_cons] at hbs hk
    cases k with
    | zero =>
      have hother : ∀ j, j < rest.length → address.toNat ≠ (address + 1 + BitVec.ofNat 16 j).toNat := by
        intro j hj
        bv_omega
      rw [placeBytes, BitVec.add_zero, read_placeBytes_other _ hother, Memory.read_write_same]
      rfl
    | succ k =>
      rw [placeBytes, ← add_one_add_ofNat, ih (by omega) (by omega)]
      rfl

theorem length_tableWindow (w : Nat) : (tableWindow w).length = 4 := by
  simp [tableWindow]

theorem decodeBytes_of_decodeTableWord {nbits w : Nat} {i : Instr} (h : decodeTableWord nbits w = some i) :
    ∃ rest, decodeBytes (tableWindow w) = .ok (i, rest) := by
  unfold decodeTableWord at h
  split at h
  · split at h
    · next rest heq =>
      cases h
      exact ⟨rest, heq⟩
    · cases h
  · cases h

theorem targetByte_withFetchWord (s : State) (nbits w : Nat) {k : Nat} (hk : k < 4) :
    targetByte (s.withFetchWord nbits w) k = byteAt (tableWindow w) k :=
  read_placeBytes (by rwa [length_tableWindow]) (by rw [length_tableWindow]; decide) s.pc s.memory

/-- Settles O41: the window's four bytes are read back where the step fetches; the rest of the placing is its record. -/
theorem placedWordRuns : Obligations.PlacedWordRuns := by
  unfold Obligations.PlacedWordRuns
  intro s nbits w i hi
  refine ⟨?step, rfl, fun a ha => read_placeBytes_other s.memory (by rwa [length_tableWindow])⟩
  case step =>
    obtain ⟨rest, hrest⟩ := decodeBytes_of_decodeTableWord hi
    obtain ⟨-, rfl, -⟩ := decodeBytes_eq_ok hrest
    have hf : fetchedByte (s.withFetchWord nbits w) = targetByte (s.withFetchWord nbits w) := funext fun _ => if_pos rfl
    have hinstr : fetchInstr (s.withFetchWord nbits w) = decodeWindow (tableWindow w) := by
      rw [fetchInstr, hf, decodeWindow, targetByte_withFetchWord s nbits w (by decide),
        targetByte_withFetchWord s nbits w (by decide), targetByte_withFetchWord s nbits w (by decide),
        targetByte_withFetchWord s nbits w (by decide)]
    exact congrArg (exec · _) hinstr

/-! ## The queue of calls -/

theorem runSchedule_calls {bus : Byte} {schedule : List BusOp} {s t : State}
    (h : runSchedule bus schedule s = .next t) : t.calls = s.calls := by
  induction schedule generalizing s with
  | nil => cases h; rfl
  | cons o rest ih =>
    obtain ⟨u, hu, ht⟩ := andThen_eq_next h
    exact (ih ht).trans (runOp_movesPins hu).calls

theorem forcedInstruction_calls {bus : Byte} {schedule : List BusOp} {effect : State → State} {s t : State}
    (heffect : ∀ u, (effect u).calls = u.calls) (h : forcedInstruction bus schedule effect s = .next t) :
    t.calls = s.calls := by
  obtain ⟨u, hu, ht⟩ := andThen_eq_next h
  cases ht
  rw [← runSchedule_calls hu]
  split
  · exact heffect u
  · exact garble_calls u

theorem loadIndexRegister_calls {v : Word} {s t : State} (h : loadIndexRegister v s = .next t) : t.calls = s.calls :=
  forcedInstruction_calls (effectLdHlNn_calls v) h

theorem readByte_calls {a : Word} {v : Byte} {s t : State} (h : readByte a s = .next (v, t)) : t.calls = s.calls := by
  obtain ⟨u, hload, h⟩ := andThen_eq_next h
  obtain ⟨w, hread, h⟩ := andThen_eq_next h
  cases h
  have hcalls := forcedInstruction_calls effectLdAHl_calls hread
  exact hcalls.trans (loadIndexRegister_calls hload)

theorem readWord_calls {a w : Word} {s t : State} (h : readWord a s = .next (w, t)) : t.calls = s.calls := by
  obtain ⟨⟨_, u⟩, hfirst, h⟩ := andThen_eq_next h
  obtain ⟨⟨_, _⟩, hsecond, h⟩ := andThen_eq_next h
  cases h
  exact (readByte_calls hsecond).trans (readByte_calls hfirst)

theorem storeAndAdvance_calls {v : Byte} {s t : State} (h : storeAndAdvance v s = .next t) : t.calls = s.calls := by
  obtain ⟨u, hstore, hinc⟩ := andThen_eq_next h
  exact (forcedInstruction_calls effectIncHl_calls hinc).trans (forcedInstruction_calls (effectLdHlN_calls v) hstore)

theorem resetCpu_calls {s t : State} (h : resetCpu s = .next t) : t.calls = s.calls := by
  unfold resetCpu at h
  split at h
  · cases h
  · split at h
    · cases h
    · obtain ⟨u, hu, ht⟩ := andThen_eq_next h
      cases ht
      exact (effectResetCpu_calls u).trans (runSchedule_calls hu)

theorem decodeAtCursor_calls {s t : State} (h : decodeAtCursor s = .next t) : t.calls = s.calls :=
  (exec_frame (ready_or_desynced_of_exec h) h).1

theorem directPrimitive_calls {busOp : BusOp} {s t : State} (h : directPrimitive busOp s = .next t) :
    t.calls = s.calls := by
  obtain ⟨moved, clocked, hmoved, hclocked, rfl⟩ := directPrimitive_eq_next h
  rw [recordSample_calls, (clockZ80_clocks hclocked).calls, (runOp_movesPins hmoved).calls, directDesync_calls]

theorem runCall_calls {c : HostCall} {s t : State} (h : runCall c s = .next t) : t.calls = s.calls := by
  cases c with
  | resetCpu => exact resetCpu_calls h
  | loadIndexRegister v => exact loadIndexRegister_calls h
  | readByte a =>
    obtain ⟨⟨_, _⟩, hread, h⟩ := andThen_eq_next h
    cases h
    have hcalls := readByte_calls hread
    exact hcalls
  | readWord a =>
    obtain ⟨⟨_, _⟩, hread, h⟩ := andThen_eq_next h
    cases h
    have hcalls := readWord_calls hread
    exact hcalls
  | writeByte a v => exact storeAndAdvance_calls (storeAndAdvance_of_writeByte h)
  | disassembleOne a => exact decodeAtCursor_calls (s := { s with pc := a }) h
  | primitive busOp => exact directPrimitive_calls h

theorem step_of_nil {s : State} (h : s.calls = []) : step s = decodeAtCursor s := by
  rw [step, nextCall, h]

theorem step_of_cons {s : State} {c : HostCall} {later : List HostCall} (h : s.calls = c :: later) :
    step s = runCall c { s with calls := later } := by
  rw [step, nextCall, h]

/-- Settles O32: a step runs the oldest call, and no call touches the queue. -/
theorem stepRunsDecodedInstruction : Obligations.StepRunsDecodedInstruction := by
  unfold Obligations.StepRunsDecodedInstruction
  refine fun s later => ⟨fun i rest hb hnil hdec => ?cursor, fun A i rest hb hcons hdec => ?disassemble, step_of_cons,
    fun _ => step_of_cons, fun _ _ => step_of_cons, fun _ => step_of_cons, fun _ => step_of_cons,
    fun _ => step_of_cons, fun c t hcons ht => ?queue, fun t hnil ht => ?empty⟩
  case cursor => rw [step_of_nil hnil, decodeAtCursor, fetchInstr_of_decodeBytes hb hdec]
  case disassemble =>
    rw [step_of_cons hcons]
    refine congrArg (exec · _) (fetchInstr_of_decodeBytes (rest := rest) hb ?_)
    rw [← hdec]
    simp [targetByte]
  case queue => exact runCall_calls ((step_of_cons hcons).symm.trans ht)
  case empty => exact (decodeAtCursor_calls ((step_of_nil hnil).symm.trans ht)).trans hnil

end Sys2Proof.Machine
end

section
/-! PROOFS. A BusDriver primitive the monitor calls directly (70_reset_and_hazards.md R403; 93_implementation_defined.md
U9; logs 9, 15): what one leaves, that pulses add up over calls, and that a driven write cycle alone stops them. -/

namespace Sys2Proof.Machine

/-! ## What a direct call leaves alone -/

/-- Memory and the Z80's registers are as they were. -/
def KeepsZ80 (s t : State) : Prop :=
  t.memory = s.memory ∧ t.z80HL = s.z80HL ∧ t.z80A = s.z80A ∧ t.z80PC = s.z80PC ∧ t.z80F = s.z80F ∧ t.z80R = s.z80R ∧
    t.z80IntEnable = s.z80IntEnable ∧ t.z80IntMode = s.z80IntMode

theorem MovesPins.keepsZ80 {s t : State} (h : MovesPins s t) : KeepsZ80 s t :=
  ⟨h.memory, h.z80HL, h.z80A, h.z80PC, h.z80F, h.z80R, h.z80IntEnable, h.z80IntMode⟩

theorem keepsZ80_directDesync (s : State) : KeepsZ80 s (directDesync s) := by simp [KeepsZ80]

theorem keepsZ80_recordSample (busOp : BusOp) (s t : State) : KeepsZ80 t (recordSample busOp s t) := by
  simp [KeepsZ80]

theorem KeepsZ80.trans {s t u : State} (h : KeepsZ80 s t) (g : KeepsZ80 t u) : KeepsZ80 s u := by
  obtain ⟨h1, h2, h3, h4, h5, h6, h7, h8⟩ := h
  obtain ⟨g1, g2, g3, g4, g5, g6, g7, g8⟩ := g
  exact ⟨g1.trans h1, g2.trans h2, g3.trans h3, g4.trans h4, g5.trans h5, g6.trans h6, g7.trans h7, g8.trans h8⟩

/-- A call that makes no pulse, or pulses that leave an opcode fetch before its third T-state. -/
def TakesNoByte (busOp : BusOp) (s : State) : Prop :=
  ∀ n, busOp = .pulse n → n = 0 ∨ (s.rst = .released ∧ ∃ k, s.z80Place = .cycle (.fetch k) ∧ k + n ≤ 2)

theorem takesNoByte_of_ne_pulse {busOp : BusOp} (h : ∀ n, busOp ≠ .pulse n) (s : State) : TakesNoByte busOp s :=
  fun n hn => absurd hn (h n)

theorem clockZ80_keepsZ80 {busOp : BusOp} {s t : State} (hf : busFight s = false) (hb : TakesNoByte busOp s)
    (h : clockZ80 busOp s = .next t) : KeepsZ80 s t := by
  cases busOp with
  | pulse n =>
    rcases hb n rfl with rfl | ⟨hr, k, hp, hk⟩
    · cases h
      exact ⟨rfl, rfl, rfl, rfl, rfl, rfl, rfl, rfl⟩
    · cases (directTStates_fetch n hr hp hf hk).symm.trans h
      exact ⟨rfl, rfl, rfl, rfl, rfl, rfl, rfl, rfl⟩
  | setDataBusOutput v =>
    simp only [clockZ80] at h
    split at h <;> cases h
    exact ⟨rfl, rfl, rfl, rfl, rfl, rfl, rfl, rfl⟩
  | setDataBusInput | sampleDataBus | assertRamOverride | releaseRamOverride | assertReset | releaseReset =>
    cases h
    exact ⟨rfl, rfl, rfl, rfl, rfl, rfl, rfl, rfl⟩

theorem runOp_pulse_eq_next {bus : Byte} {n : Nat} {s t : State} (h : runOp bus (.pulse n) s = .next t) :
    t = afterPulses n s := by
  have hc := clk_of_pulse h
  rw [runOp_pulse (runOp_movesPins h).owned, pulse_low hc] at h
  cases h
  rfl

/-- A direct call of `pulse` clocks the Z80 that many T-states. -/
theorem directPrimitive_pulse_eq_next {n : Nat} {s t : State} (h : directPrimitive (.pulse n) s = .next t) :
    busFight (afterPulses n (directDesync s)) = false ∧ directTStates n (afterPulses n (directDesync s)) = .next t := by
  obtain ⟨moved, clocked, hmoved, hclocked, rfl⟩ := directPrimitive_eq_next h
  cases runOp_pulse_eq_next hmoved
  exact ⟨(runOp_movesPins hmoved).stays_owned, hclocked⟩

section Leaves

variable {busOp : BusOp} {s t : State} (h : directPrimitive busOp s = .next t)
include h

theorem directPrimitive_keepsZ80 (hb : TakesNoByte busOp s) : KeepsZ80 s t := by
  obtain ⟨moved, clocked, hmoved, hclocked, rfl⟩ := directPrimitive_eq_next h
  have hm := runOp_movesPins hmoved
  have hb' : TakesNoByte busOp moved := by
    rintro n rfl
    have hb := hb n rfl
    rw [runOp_pulse_eq_next hmoved]
    simpa [afterPulses] using hb
  exact (((keepsZ80_directDesync s).trans hm.keepsZ80).trans (clockZ80_keepsZ80 hm.stays_owned hb' hclocked)).trans
    (keepsZ80_recordSample busOp s clocked)

/-- No write reaches memory in reset, nor behind the override. -/
theorem directPrimitive_memory (hheld : s.rst = .asserted ∨ s.ramOvr = .asserted) : t.memory = s.memory := by
  by_cases hpulse : ∃ n, busOp = .pulse n
  · obtain ⟨n, rfl⟩ := hpulse
    have hclocks := directTStates_clocks (directPrimitive_pulse_eq_next h).2
    have hmem : t.memory = (directDesync s).memory := by
      rcases hheld with hr | ho
      · exact hclocks.memory_inReset ((directDesync_rst s).trans hr)
      · exact hclocks.memory_overridden ((directDesync_ramOvr s).trans ho)
    rw [hmem, directDesync_memory]
  · exact (directPrimitive_keepsZ80 h (takesNoByte_of_ne_pulse (not_exists.mp hpulse) s)).1

theorem directPrimitive_frame : t.sync = (directDesync s).sync ∧ t.pc = s.pc ∧ t.hlLoaded = s.hlLoaded := by
  obtain ⟨moved, clocked, hmoved, hclocked, rfl⟩ := directPrimitive_eq_next h
  have hm := runOp_movesPins hmoved
  have hc := clockZ80_clocks hclocked
  refine ⟨?_, ?_, ?_⟩
  · rw [recordSample_sync, hc.sync, hm.sync]
  · rw [recordSample_pc, hc.pc, hm.pc, directDesync_pc]
  · rw [recordSample_hlLoaded, hc.hlLoaded, hm.hlLoaded, directDesync_hlLoaded]

end Leaves

/-! ## The Z80's place, a write cycle, a sample -/

theorem directPrimitive_fetch {n k : Nat} {s t : State} (h : directPrimitive (.pulse n) s = .next t)
    (hr : s.rst = .released) (hp : s.z80Place = .cycle (.fetch k)) (hk : k + n ≤ 2) :
    t.z80Place = .cycle (.fetch (k + n)) := by
  obtain ⟨hf, h⟩ := directPrimitive_pulse_eq_next h
  have hr' : (afterPulses n (directDesync s)).rst = .released := (directDesync_rst s).trans hr
  have hp' : (afterPulses n (directDesync s)).z80Place = .cycle (.fetch k) := (directDesync_z80Place s).trans hp
  cases (directTStates_fetch n hr' hp' hf hk).symm.trans h
  rfl

theorem directTState_cycle {phase : Phase} {s t : State} (hr : s.rst = .released) (hp : s.z80Place = .cycle phase)
    (h : directTState s = .next t) : t = tickCycle phase s := by
  rw [directTState, if_neg (by rw [hr]; decide), hp] at h
  change (if TState.fights (cycleState phase s) = true then _ else _) = _ at h
  split at h
  · cases h
  · cases h
    rfl

/-- The last T-state of a write cycle ends it, and stores where the RAM is not overridden. -/
theorem directPrimitive_lastOfWrite {v : Byte} {s t : State} (h : directPrimitive (.pulse 1) s = .next t)
    (hr : s.rst = .released) (hp : s.z80Place = .cycle (.writeHl v 2)) : t.z80Place = .cycle (.fetch 0) ∧
      ∀ a, t.memory.read a = if a = s.z80HL.toNat ∧ s.ramOvr = .released then v else s.memory.read a := by
  obtain ⟨-, h⟩ := directPrimitive_pulse_eq_next h
  obtain ⟨u, hu, ht⟩ := andThen_eq_next h
  cases ht
  cases directTState_cycle (s := afterPulses 1 (directDesync s)) ((directDesync_rst s).trans hr)
    ((directDesync_z80Place s).trans hp) hu
  refine ⟨rfl, fun a => ?_⟩
  by_cases ho : s.ramOvr = .released <;>
    simp [tickCycle, TState.tick, cycleState, TState.ofState, afterPulses, ho, Memory.read_write]

theorem directBusByte_inReset {s : State} (hr : s.rst = .asserted) : directBusByte s = 0xFF := if_pos hr

theorem directBusByte_fetch {s : State} {k : Nat} (hd : s.dbusDir = .inPullup) (hr : s.rst = .released)
    (hp : s.z80Place = .cycle (.fetch k)) :
    directBusByte s = if k ≠ 0 ∧ s.ramOvr = .released then s.memory.read s.z80PC.toNat else 0xFF := by
  rw [directBusByte, if_neg (by rw [hr]; decide), hp]
  cases k <;> simp [TState.busByte, TState.readRequest, TState.z80Drives, cycleState, TState.ofState, hd]

theorem directPrimitive_sample {s t : State} (h : directPrimitive .sampleDataBus s = .next t) :
    s.dbusDir = .inPullup ∧ t.returned = some (.byte (directBusByte s)) := by
  obtain ⟨moved, clocked, hmoved, hclocked, rfl⟩ := directPrimitive_eq_next h
  refine ⟨?_, rfl⟩
  rw [runOp_sampleDataBus (runOp_movesPins hmoved).owned, sampleDataBus, directDesync_dbusDir] at hmoved
  split at hmoved
  · assumption
  · cases hmoved

/-! ## Pulses over calls -/

/-- What the monitor sees of `n` pulses made from `s`, the Z80 being as in `u`. -/
def recorded (n : Nat) (later : List HostCall) (s u : State) : State :=
  { u with pinTrace := s.pinTrace ++ pulses n, pulseTotal := s.pulseTotal + n, calls := later }

section Pulses

variable {s : State} (hf : busFight s = false) (hc : s.clk = .low)
include hf hc

/-- A step that runs a direct `pulse`: the Z80 is clocked, blind to traces and queue, and the pulses are recorded. -/
theorem step_pulse (n : Nat) (later : List HostCall) :
    step { s with calls := .primitive (.pulse n) :: later } =
      andThen (directTStates n (directDesync s)) fun u => .next (recorded n later s u) := by
  have hf' : busFight (directDesync { s with calls := later }) = false := by simpa [busFight] using hf
  have hc' : (directDesync { s with calls := later }).clk = .low := (directDesync_clk _).trans hc
  have hseen : afterPulses n (directDesync { s with calls := later }) = { directDesync s with
      pinTrace := s.pinTrace ++ pulses n, pulseTotal := s.pulseTotal + n, calls := later } := by
    unfold directDesync
    split <;> rfl
  rw [step_of_cons rfl]
  change andThen (runOp _ (.pulse n) (directDesync { s with calls := later })) _ = _
  rw [runOp_pulse hf', pulse_low hc', andThen_next, hseen]
  change andThen (directTStates n _) _ = _
  rw [directTStates_ghost, andThen_andThen]
  rfl

theorem step_of_pulse {n : Nat} {later : List HostCall} (hcalls : s.calls = .primitive (.pulse n) :: later) :
    step s = andThen (directTStates n (directDesync s)) fun u => .next (recorded n later s u) := by
  have hs : { s with calls := .primitive (.pulse n) :: later } = s := by rw [← hcalls]
  have hstep := step_pulse hf hc n later
  rwa [hs] at hstep

end Pulses

theorem step_pulse_fights {s : State} (hf : busFight s = true) (n : Nat) (later : List HostCall) :
    step { s with calls := .primitive (.pulse n) :: later } = .fault .busFight := by
  have hf' : busFight (directDesync { s with calls := later }) = true := by simpa [busFight] using hf
  rw [step_of_cons rfl, runCall, directPrimitive, runOp_fights hf']
  rfl

theorem step_pulse_clockHigh {s : State} (hf : busFight s = false) (hc : s.clk = .high) (n : Nat)
    (later : List HostCall) :
    step { s with calls := .primitive (.pulse n) :: later } = .refused .clockNotLow := by
  have hf' : busFight (directDesync { s with calls := later }) = false := by simpa [busFight] using hf
  have hc' : (directDesync { s with calls := later }).clk = .high := (directDesync_clk _).trans hc
  rw [step_of_cons rfl, runCall, directPrimitive, runOp_pulse hf', pulse_high hc']
  rfl

theorem recorded_recorded (m n : Nat) (later later' : List HostCall) (s u w : State) :
    recorded n later (recorded m later' s u) w = recorded (m + n) later s w := by
  simp only [recorded, pulses_add, List.append_assoc, Nat.add_assoc]

theorem directTStates_recorded (m n : Nat) (later : List HostCall) (s u : State) :
    directTStates n (recorded m later s u) = andThen (directTStates n u) fun w => .next (recorded m later s w) :=
  directTStates_ghost n u _ _ _

/-- Two calls of `pulse` in a row leave what one call of the sum leaves, or stop as it stops. -/
theorem step_pulse_pulse (m n : Nat) (s : State) (later : List HostCall) :
    andThen (step { s with calls := .primitive (.pulse m) :: .primitive (.pulse n) :: later }) step =
      step { s with calls := .primitive (.pulse (m + n)) :: later } := by
  cases hf : busFight s with
  | true => rw [step_pulse_fights hf, step_pulse_fights hf, andThen_fault]
  | false =>
    obtain hc | hc : s.clk = .high ∨ s.clk = .low := by cases s.clk <;> simp
    · rw [step_pulse_clockHigh hf hc, step_pulse_clockHigh hf hc, andThen_refused]
    · rw [step_pulse hf hc, step_pulse hf hc, directTStates_add, andThen_andThen, andThen_andThen]
      cases hfirst : directTStates m (directDesync s) with
      | fault f => rfl
      | refused r => rfl
      | next u =>
        have hclocks := directTStates_clocks hfirst
        have hf' : busFight (recorded m later s u) = false := by
          simpa [busFight, recorded, hclocks.ramOvr, hclocks.dbusDir] using hf
        have hc' : (recorded m later s u).clk = .low := (hclocks.clk.trans (directDesync_clk s)).trans hc
        have hlost : directDesync (recorded m later s u) = recorded m later s u := by
          refine directDesync_of_lost fun hr => ?_
          have hr' : s.rst = .released := ((hclocks.rst.trans (directDesync_rst s)).symm.trans hr)
          exact hclocks.sync.trans ((directDesync_sync s).trans (if_pos hr'))
        rw [andThen_next, andThen_next]
        refine (step_pulse hf' hc' n later).trans ?_
        rw [hlost, directTStates_recorded, andThen_andThen]
        simp only [andThen_next, recorded_recorded]
        rfl

/-! ## Where pulses stop -/

/-- A T-state stops only where the controller drives in a known machine cycle. -/
theorem directTState_stops (s : State) : (∃ t, directTState s = .next t) ∨
    (s.dbusDir = .out ∧ s.rst = .released ∧ directTState s = .fault .busFight) := by
  unfold directTState
  cases hr : s.rst with
  | asserted => exact .inl ⟨_, rfl⟩
  | released =>
    rw [if_neg (by decide)]
    cases s.z80Place with
    | unknown => exact .inl ⟨_, rfl⟩
    | resetting n => exact .inl ⟨_, rfl⟩
    | starting n => exact .inl ⟨_, rfl⟩
    | cycle phase =>
      cases hg : TState.fights (cycleState phase s) with
      | false => exact .inl ⟨_, by simp [hg]; rfl⟩
      | true =>
        refine .inr ⟨?_, rfl, by simp [hg]⟩
        simp [TState.fights, cycleState, TState.ofState] at hg
        exact hg.1

theorem directTStates_stops (n : Nat) (s : State) : (∃ t, directTStates n s = .next t) ∨
    (s.dbusDir = .out ∧ s.rst = .released ∧ directTStates n s = .fault .busFight) := by
  induction n generalizing s with
  | zero => exact .inl ⟨s, rfl⟩
  | succ n ih =>
    rw [directTStates]
    rcases directTState_stops s with ⟨u, hu⟩ | ⟨hd, hr, hstop⟩
    · have hclocks := directTState_clocks hu
      rw [hu, andThen_next, ← hclocks.dbusDir, ← hclocks.rst]
      exact ih u
    · exact .inr ⟨hd, hr, by rw [hstop, andThen_fault]⟩

/-- Where the Z80's place is not known no T-state is a bus fight. -/
theorem directTStates_unknown (n : Nat) {s : State} (hp : s.z80Place = .unknown) :
    ∃ t, directTStates n s = .next t := by
  induction n generalizing s with
  | zero => exact ⟨s, rfl⟩
  | succ n ih =>
    have hnext : ∃ u, directTState s = .next u ∧ u.z80Place = .unknown := by
      unfold directTState
      rw [hp]
      split
      · exact ⟨_, rfl, by simp [tickReset, hp]⟩
      · exact ⟨_, rfl, by simp only [tickUnknown]; split <;> rfl⟩
    obtain ⟨u, hu, hpu⟩ := hnext
    rw [directTStates, hu, andThen_next]
    exact ih hpu

theorem directTStates_drivenWrite {s : State} {v : Byte} {k : Nat} (n : Nat) (hr : s.rst = .released)
    (hd : s.dbusDir = .out) (hp : s.z80Place = .cycle (.writeHl v k)) :
    directTStates (n + 1) s = .fault .busFight := by
  have hg : TState.fights (cycleState (.writeHl v k) s) = true := by
    simp [TState.fights, TState.inWriteCycle, cycleState, TState.ofState, hd]
  rw [directTStates, directTState, if_neg (by rw [hr]; decide), hp]
  simp only [hg, if_true, andThen_fault]

/-! ## Unpaired override calls -/

theorem directDesync_released {s : State} (hr : s.rst = .released) : directDesync s = raiseDesync s := if_pos hr

theorem directPrimitive_assertRamOverride {s : State} (hf : busFight s = false) (hr : s.rst = .released) :
    ∃ t, directPrimitive .assertRamOverride s = .next t ∧ t.ramOvr = .asserted ∧ t.sync = .lost := by
  have hf' : busFight (raiseDesync s) = false := hf
  rw [directPrimitive, directDesync_released hr, runOp_assertRamOverride hf', assertRamOverride,
    if_neg (fun hb => nomatch hb.2)]
  exact ⟨_, rfl, rfl, rfl⟩

theorem directPrimitive_releaseRamOverride {s : State} (hf : busFight s = false) (hr : s.rst = .released)
    (hd : s.dbusDir = .inPullup) :
    ∃ t, directPrimitive .releaseRamOverride s = .next t ∧ t.ramOvr = .released ∧ t.sync = .lost := by
  have hf' : busFight (raiseDesync s) = false := hf
  have hd' : (raiseDesync s).dbusDir ≠ .out := by rw [raiseDesync_dbusDir, hd]; decide
  rw [directPrimitive, directDesync_released hr, runOp_releaseRamOverride hf', releaseRamOverride,
    if_neg (fun hb => nomatch hb.2), if_neg hd']
  exact ⟨_, rfl, rfl, rfl⟩

/-! ## The statement -/

/-- What a direct call leaves, whatever it is. -/
theorem directPrimitive_leaves {s t : State} {busOp : BusOp} (h : directPrimitive busOp s = .next t) :
    (s.rst = .released → t.sync = .lost) ∧ (s.rst = .asserted → t.sync = s.sync ∧ t.memory = s.memory) ∧
      (s.ramOvr = .asserted → t.memory = s.memory) ∧ t.pc = s.pc ∧ t.calls = s.calls ∧ t.hlLoaded = s.hlLoaded := by
  obtain ⟨hsync, hpc, hloaded⟩ := directPrimitive_frame h
  rw [directDesync_sync] at hsync
  exact ⟨fun hr => hsync.trans (if_pos hr),
    fun hr => ⟨hsync.trans (if_neg (by rw [hr]; decide)), directPrimitive_memory h (.inl hr)⟩,
    fun ho => directPrimitive_memory h (.inr ho), hpc, directPrimitive_calls h, hloaded⟩

/-- Settles O55: a completed call leaves what its lemmas say; pulses over calls are `step_pulse_pulse`; a call stops
only where `directTStates_stops`. -/
theorem directPrimitiveDesyncs : Obligations.DirectPrimitiveDesyncs := by
  unfold Obligations.DirectPrimitiveDesyncs
  refine fun s later => ⟨fun t busOp hcalls ht => ?completed, fun m n => step_pulse_pulse m n s later,
    fun hc howned => ?stops⟩
  case completed =>
    have h : directPrimitive busOp { s with calls := later } = .next t := (step_of_cons hcalls).symm.trans ht
    obtain ⟨hlost, hreset, hheld, hpc, hqueue, hloaded⟩ := directPrimitive_leaves h
    refine ⟨hlost, hreset, hheld, hpc, hqueue, hloaded,
      fun hb => directPrimitive_keepsZ80 (s := { s with calls := later }) h hb, ?fetch, ?write, ?sample⟩
    case fetch =>
      rintro n k rfl hr hp hk
      exact directPrimitive_fetch h hr hp hk
    case write =>
      rintro v rfl hr hp
      exact directPrimitive_lastOfWrite (s := { s with calls := later }) h hr hp
    case sample =>
      rintro rfl
      obtain ⟨hd, hret⟩ := directPrimitive_sample h
      exact ⟨_, hret, directBusByte_inReset, fun k hr hp => directBusByte_fetch hd hr hp⟩
  case stops =>
    have hf := busFight_eq_false howned
    refine ⟨fun n hcalls => ?pulse, fun n hcalls hp => ?completes, fun n v k hcalls hr hd hp => ?fights,
      fun hcalls hr => ?assert, fun hcalls hr hd => ?release⟩
    case pulse =>
      rw [step_of_pulse hf hc hcalls]
      rcases directTStates_stops n (directDesync s) with ⟨u, hu⟩ | ⟨hd, hr, hstop⟩
      · rw [hu, andThen_next]
        exact .inl ⟨_, rfl, rfl, rfl⟩
      · rw [hstop, andThen_fault]
        exact .inr ⟨(directDesync_dbusDir s).symm.trans hd, (directDesync_rst s).symm.trans hr, rfl⟩
    case completes =>
      have hdone : ∃ u, directTStates n (directDesync s) = .next u := by
        rcases hp with hp | ⟨k, hp, hk⟩
        · exact directTStates_unknown n ((directDesync_z80Place s).trans hp)
        · rcases directTStates_stops n (directDesync s) with hdone | ⟨-, hr, -⟩
          · exact hdone
          · exact ⟨_, directTStates_fetch n hr ((directDesync_z80Place s).trans hp) (by simpa [busFight] using hf) hk⟩
      obtain ⟨u, hu⟩ := hdone
      rw [step_of_pulse hf hc hcalls, hu, andThen_next]
      exact ⟨_, rfl⟩
    case fights =>
      rw [step_of_pulse hf hc hcalls, directTStates_drivenWrite n ((directDesync_rst s).trans hr)
        ((directDesync_dbusDir s).trans hd) ((directDesync_z80Place s).trans hp), andThen_fault]
    case assert =>
      rw [step_of_cons hcalls]
      exact directPrimitive_assertRamOverride (s := { s with calls := later }) hf hr
    case release =>
      rw [step_of_cons hcalls]
      exact directPrimitive_releaseRamOverride (s := { s with calls := later }) hf hr hd

end Sys2Proof.Machine
end
